-- ==== Sys2Proof/Word.lean ====
section
/-! DEFINITION. The byte of a line and the register of the 16-bit check. -/

namespace Sys2Proof

/-- One byte of a line of the part. -/
abbrev Byte := BitVec 8

/-- The 16-bit register of the check (R185). -/
abbrev Crc := BitVec 16

end Sys2Proof
end

