-- ==== Sys2Proof/Syntax.lean ====
section
/-! DEFINITION. The names of the units and points of the part, and the commands: one constructor of `Instr` for each
row of the table of operations and events. -/

namespace Sys2Proof

/-! ## Units (the inventory table of the scope file) -/

/-- A dispenser, D1 to D4. -/
inductive Disp | d1 | d2 | d3 | d4
deriving DecidableEq, Repr

/-- A hose: hose A or B of each dispenser. -/
inductive Hose | h1A | h1B | h2A | h2B | h3A | h3B | h4A | h4B
deriving DecidableEq, Repr

/-- A storage bank, B1 to B6. -/
inductive BankId | b1 | b2 | b3 | b4 | b5 | b6
deriving DecidableEq, Repr

/-- A compressor, C1 or C2. -/
inductive CompId | c1 | c2
deriving DecidableEq, Repr

/-- A chiller stage, S1 to S3. -/
inductive StageId | s1 | s2 | s3
deriving DecidableEq, Repr

/-! ## Field points (R164: 57 outputs, 40 switches and levels, 26 analog points, 4 meters) -/

/-- The output points: VALVE points and the SETPOINT point of each dispenser. -/
inductive OutPoint
  | inlet (d : Disp) (k : BankId)
  | pcv (d : Disp)
  | prv (d : Disp)
  | hv (h : Hose)
  | compRun (c : CompId)
  | discharge (c : CompId) (k : BankId)
  | stageRun (s : StageId)
deriving DecidableEq, Repr

/-- The SWITCH and LEVEL points. -/
inductive SwitchPoint
  | esd (d : Disp)
  | gd (d : Disp)
  | hol (h : Hose)
  | cpl (h : Hose)
  | brk (h : Hose)
  | compFlt (c : CompId)
  | stageFlt (s : StageId)
  | fd1
  | fd2
  | caGd
deriving DecidableEq, Repr

/-- The ANALOG points. -/
inductive AnalogPoint
  | tg (d : Disp)
  | pt (h : Hose)
  | bankPt (k : BankId)
  | bankTt (k : BankId)
  | supPt
  | ambTt
deriving DecidableEq, Repr

/-- A point of the table, of any kind. -/
inductive Point
  | out (p : OutPoint)
  | switch (p : SwitchPoint)
  | analog (p : AnalogPoint)
  | meter (d : Disp)
deriving DecidableEq, Repr

/-- The pause causes of a fill (R94), in the order of the session record. -/
inductive PauseCause | hold | vehicleHalt | supply | bankSwitch | corridorHigh
deriving DecidableEq, Repr

/-! ## Items of the commands -/

/-- A vehicle frame as its receiver decodes it (R107): the fields in their order of transmission, the check last.
A vehicle id of 0 is read as absent, and `command` is the command byte. -/
structure VehFrame where
  vehicleId : Nat
  nwp : Nat
  volume : Nat
  pressure : Nat
  temperature : Nat
  command : Nat
  check : Nat
deriving DecidableEq, Repr

/-- The description LOAD CREDENTIAL carries (R135): the fields of the entry table, named values by their R190 codes. -/
structure CredItems where
  state : Nat
  issuer : Nat
  token : Nat
  kind : Nat
  grades : Nat
  priceClass : Nat
  account : Option Nat
  massLimit : Option Nat
  amountCap : Option Nat
  expiryDay : Option Nat
deriving DecidableEq, Repr

/-- The fields of an order as APPEND ORDER and SPLICE ORDER carry them (R120); `mask` has bit k set for dispenser D(k+1). -/
structure OrderItems where
  busId : Nat
  credIndex : Nat
  targetSoc : Nat
  expectedMass : Nat
  mask : Nat
  deadline : Option (Nat × Nat)
deriving DecidableEq, Repr

/-- One period of a tariff (R149): its start minute, and its prices for H70 classes 0 to 3 and then H35 classes 0 to 3. -/
structure PeriodItems where
  start : Nat
  p0 : Nat
  p1 : Nat
  p2 : Nat
  p3 : Nat
  p4 : Nat
  p5 : Nat
  p6 : Nat
  p7 : Nat
deriving DecidableEq, Repr

/-- The commands of the part, one for each row of the table of operations and events. A request of the host carries its
tag and the items its owning rule names, each number a unit or a named value by its R190 code (so that a request can
name what does not exist, and is then refused); an event of the forecourt names its unit. -/
inductive Instr
  | powerOn
  | receiveFrame (bytes : List Byte)
  | frameGapTimeout
  | transmitNextFrame
  | stationStatus (tag : Byte)
  | setClock (tag : Byte) (day second : Nat)
  | configure (tag : Byte) (id unit point value : Nat)
  | readConfiguration (tag : Byte) (id unit point : Nat)
  | openStation (tag : Byte)
  | closeStation (tag : Byte) (kind : Nat)
  | park (tag : Byte) (disp : Nat)
  | unpark (tag : Byte) (disp : Nat)
  | setHold (tag : Byte)
  | releaseHold (tag : Byte)
  | setTrip (tag : Byte)
  | resetTrip (tag : Byte)
  | restart (tag : Byte)
  | authoriseHose (tag : Byte) (hose issuer token : Nat) (preset massLimit targetSoc : Option Nat)
  | authoriseByOrder (tag : Byte) (busId hose : Nat)
  | stopHose (tag : Byte) (hose : Nat)
  | hoseStatus (tag : Byte) (hose : Nat)
  | armDispenser (tag : Byte) (disp minutes : Nat)
  | loadCredential (tag : Byte) (index : Nat) (desc : CredItems) (allowance : Nat)
  | addAllowance (tag : Byte) (index amount : Nat)
  | suspend (tag : Byte) (index : Nat)
  | resume (tag : Byte) (index : Nat)
  | delete (tag : Byte) (index : Nat)
  | readCredential (tag : Byte) (index : Nat)
  | appendOrder (tag : Byte) (order : OrderItems)
  | spliceOrder (tag : Byte) (order : OrderItems) (k : Nat)
  | withdrawOrder (tag : Byte) (busId : Nat)
  | readQueue (tag : Byte) (start : Nat)
  | loadTariff (tag : Byte) (periods : List PeriodItems)
  | readTickets (tag : Byte) (start : Nat)
  | releaseTickets (tag : Byte) (number : Nat)
  | readBatches (tag : Byte) (start : Nat)
  | releaseBatches (tag : Byte) (number : Nat)
  | flushBatches (tag : Byte)
  | bankStatus (tag : Byte)
  | isolateBank (tag : Byte) (bank : Nat)
  | restoreBank (tag : Byte) (bank : Nat)
  | compressorEnable (tag : Byte) (comp : Nat)
  | compressorDisable (tag : Byte) (comp : Nat)
  | compressorClear (tag : Byte) (comp : Nat)
  | chillerStatus (tag : Byte)
  | clearStage (tag : Byte) (stage : Nat)
  | pointStatus (tag : Byte) (unit point : Nat)
  | drivePoint (tag : Byte) (unit point value : Nat)
  | releasePoint (tag : Byte) (unit point : Nat)
  | ackEvent (tag : Byte) (unit point : Nat)
  | clockAdvance
  | rawLevel (p : SwitchPoint) (level : Nat)
  | debounceExpiry (p : SwitchPoint)
  | analogSample (p : AnalogPoint) (inRange : Bool) (value : Nat)
  | analogTimeout (p : AnalogPoint)
  | meterReport (d : Disp) (increment : Nat) (fault : Bool)
  | meterSilenceTimeout (d : Disp)
  | observedReport (p : OutPoint) (value : Nat)
  | travelLimitExpiry (p : OutPoint)
  | vehicleFrame (h : Hose) (frame : VehFrame)
  | frameAgeExpiry (h : Hose)
  | switchTimerExpiry (d : Disp)
  | startTimerExpiry (c : CompId)
  | unloadTimerExpiry (c : CompId)
  | stoppingTimerExpiry (c : CompId)
  | stageStartTimerExpiry (s : StageId)
  | offTimerSatisfied (s : StageId)
  | bandTimerExpiry
  | stopTimerExpiry
  | armIntervalEnd (d : Disp)
  | keepColdIntervalEnd (d : Disp)
  | classSettleExpiry (d : Disp)
  | classStepTimerExpiry (d : Disp)
  | couplingTimeout (h : Hose)
  | supplyWaitTimeout (h : Hose)
  | pulseTimerExpiry (h : Hose)
  | settleTimerExpiry (h : Hose)
  | precoolWaitTimeout (h : Hose)
  | pauseTimerExpiry (d : Disp) (cause : PauseCause)
  | corridorLowExpiry (d : Disp)
  | fillTimeLimit (d : Disp)
  | afterflowComplete (d : Disp)
  | afterflowTimeout (h : Hose)
  | batchTimerExpiry (number : Nat)
deriving DecidableEq, Repr

end Sys2Proof
end

