-- ==== Sys2Proof/Decode.lean ====
section
/-! DEFINITION. Words and commands: no row of the table of operations and events gives bits, so no word spells a command.
The bytes of a request are read by the link (Machine/Link.lean, R185 to R187). -/

namespace Sys2Proof

/-- The command a word of the table spells: none, for every word (assumption 1). -/
def decodeTableWord (_nbits _w : Nat) : Option Instr := none

end Sys2Proof
end

