-- ==== Sys2Proof/Config.lean ====
section
/-! DEFINITION. What is fixed for every FS-410: how many places each table and queue has. The manual leaves no result
of any command open, so there is no free value here. -/

namespace Sys2Proof.Config

/-- Places of the reply queue (R187). -/
def replyPlaces : Nat := 8

/-- Places of the notice queue (R189). -/
def noticePlaces : Nat := 32

/-- Orders the depot queue holds at most (R119). -/
def orderPlaces : Nat := 48

/-- Orders of the window (R125). -/
def windowPlaces : Nat := 6

/-- Places of the ticket log (R152). -/
def ticketPlaces : Nat := 256

/-- Batch contexts (R157). -/
def batchContexts : Nat := 8

/-- Places of the batch log (R157). -/
def batchPlaces : Nat := 32

/-- Tickets a batch holds at most (R159). -/
def batchTickets : Nat := 12

/-- Entries of the credential table (08, the entry table). -/
def credentialEntries : Nat := 512

end Sys2Proof.Config
end

