-- ==== Sys2Proof/Machine/Tables.lean ====
section
/-! DEFINITION. Tables with one entry for each unit of a kind: a record with one field per unit, so that reading back
what was written is true by computation and no index can be out of range. -/

namespace Sys2Proof

/-- One entry for each dispenser. -/
structure PerDisp (α : Type) where
  d1 : α
  d2 : α
  d3 : α
  d4 : α
deriving DecidableEq, Repr

/-- The entry of one dispenser. -/
def PerDisp.get (t : PerDisp α) : Disp → α
  | .d1 => t.d1
  | .d2 => t.d2
  | .d3 => t.d3
  | .d4 => t.d4

/-- The table with the entry of one dispenser replaced. -/
def PerDisp.set (t : PerDisp α) (i : Disp) (x : α) : PerDisp α :=
  match i with
  | .d1 => { t with d1 := x }
  | .d2 => { t with d2 := x }
  | .d3 => { t with d3 := x }
  | .d4 => { t with d4 := x }

/-- The table whose entry for each dispenser is given by a function of its name. -/
def PerDisp.make (f : Disp → α) : PerDisp α :=
  ⟨f .d1, f .d2, f .d3, f .d4⟩

/-- Every entry changed by a function of its dispenser and of the entry. -/
def PerDisp.mapId (t : PerDisp α) (f : Disp → α → β) : PerDisp β :=
  ⟨f .d1 t.d1, f .d2 t.d2, f .d3 t.d3, f .d4 t.d4⟩

/-- Every dispenser, in order. -/
def Disp.all : List Disp := [.d1, .d2, .d3, .d4]

/-- One entry for each hose. -/
structure PerHose (α : Type) where
  h1A : α
  h1B : α
  h2A : α
  h2B : α
  h3A : α
  h3B : α
  h4A : α
  h4B : α
deriving DecidableEq, Repr

/-- The entry of one hose. -/
def PerHose.get (t : PerHose α) : Hose → α
  | .h1A => t.h1A
  | .h1B => t.h1B
  | .h2A => t.h2A
  | .h2B => t.h2B
  | .h3A => t.h3A
  | .h3B => t.h3B
  | .h4A => t.h4A
  | .h4B => t.h4B

/-- The table with the entry of one hose replaced. -/
def PerHose.set (t : PerHose α) (i : Hose) (x : α) : PerHose α :=
  match i with
  | .h1A => { t with h1A := x }
  | .h1B => { t with h1B := x }
  | .h2A => { t with h2A := x }
  | .h2B => { t with h2B := x }
  | .h3A => { t with h3A := x }
  | .h3B => { t with h3B := x }
  | .h4A => { t with h4A := x }
  | .h4B => { t with h4B := x }

/-- The table whose entry for each hose is given by a function of its name. -/
def PerHose.make (f : Hose → α) : PerHose α :=
  ⟨f .h1A, f .h1B, f .h2A, f .h2B, f .h3A, f .h3B, f .h4A, f .h4B⟩

/-- Every entry changed by a function of its hose and of the entry. -/
def PerHose.mapId (t : PerHose α) (f : Hose → α → β) : PerHose β :=
  ⟨f .h1A t.h1A, f .h1B t.h1B, f .h2A t.h2A, f .h2B t.h2B, f .h3A t.h3A, f .h3B t.h3B, f .h4A t.h4A, f .h4B t.h4B⟩

/-- Every hose, in order. -/
def Hose.all : List Hose := [.h1A, .h1B, .h2A, .h2B, .h3A, .h3B, .h4A, .h4B]

/-- One entry for each bank. -/
structure PerBank (α : Type) where
  b1 : α
  b2 : α
  b3 : α
  b4 : α
  b5 : α
  b6 : α
deriving DecidableEq, Repr

/-- The entry of one bank. -/
def PerBank.get (t : PerBank α) : BankId → α
  | .b1 => t.b1
  | .b2 => t.b2
  | .b3 => t.b3
  | .b4 => t.b4
  | .b5 => t.b5
  | .b6 => t.b6

/-- The table with the entry of one bank replaced. -/
def PerBank.set (t : PerBank α) (i : BankId) (x : α) : PerBank α :=
  match i with
  | .b1 => { t with b1 := x }
  | .b2 => { t with b2 := x }
  | .b3 => { t with b3 := x }
  | .b4 => { t with b4 := x }
  | .b5 => { t with b5 := x }
  | .b6 => { t with b6 := x }

/-- The table whose entry for each bank is given by a function of its name. -/
def PerBank.make (f : BankId → α) : PerBank α :=
  ⟨f .b1, f .b2, f .b3, f .b4, f .b5, f .b6⟩

/-- Every entry changed by a function of its bank and of the entry. -/
def PerBank.mapId (t : PerBank α) (f : BankId → α → β) : PerBank β :=
  ⟨f .b1 t.b1, f .b2 t.b2, f .b3 t.b3, f .b4 t.b4, f .b5 t.b5, f .b6 t.b6⟩

/-- Every bank, in order. -/
def BankId.all : List BankId := [.b1, .b2, .b3, .b4, .b5, .b6]

/-- One entry for each compressor. -/
structure PerComp (α : Type) where
  c1 : α
  c2 : α
deriving DecidableEq, Repr

/-- The entry of one compressor. -/
def PerComp.get (t : PerComp α) : CompId → α
  | .c1 => t.c1
  | .c2 => t.c2

/-- The table with the entry of one compressor replaced. -/
def PerComp.set (t : PerComp α) (i : CompId) (x : α) : PerComp α :=
  match i with
  | .c1 => { t with c1 := x }
  | .c2 => { t with c2 := x }

/-- The table whose entry for each compressor is given by a function of its name. -/
def PerComp.make (f : CompId → α) : PerComp α :=
  ⟨f .c1, f .c2⟩

/-- Every entry changed by a function of its compressor and of the entry. -/
def PerComp.mapId (t : PerComp α) (f : CompId → α → β) : PerComp β :=
  ⟨f .c1 t.c1, f .c2 t.c2⟩

/-- Every compressor, in order. -/
def CompId.all : List CompId := [.c1, .c2]

/-- One entry for each stage. -/
structure PerStage (α : Type) where
  s1 : α
  s2 : α
  s3 : α
deriving DecidableEq, Repr

/-- The entry of one stage. -/
def PerStage.get (t : PerStage α) : StageId → α
  | .s1 => t.s1
  | .s2 => t.s2
  | .s3 => t.s3

/-- The table with the entry of one stage replaced. -/
def PerStage.set (t : PerStage α) (i : StageId) (x : α) : PerStage α :=
  match i with
  | .s1 => { t with s1 := x }
  | .s2 => { t with s2 := x }
  | .s3 => { t with s3 := x }

/-- The table whose entry for each stage is given by a function of its name. -/
def PerStage.make (f : StageId → α) : PerStage α :=
  ⟨f .s1, f .s2, f .s3⟩

/-- Every entry changed by a function of its stage and of the entry. -/
def PerStage.mapId (t : PerStage α) (f : StageId → α → β) : PerStage β :=
  ⟨f .s1 t.s1, f .s2 t.s2, f .s3 t.s3⟩

/-- Every stage, in order. -/
def StageId.all : List StageId := [.s1, .s2, .s3]

/-! ## How the units hang together -/

/-- The dispenser of a hose. -/
def Hose.disp : Hose → Disp
  | .h1A | .h1B => .d1
  | .h2A | .h2B => .d2
  | .h3A | .h3B => .d3
  | .h4A | .h4B => .d4

/-- The other hose of the same dispenser. -/
def Hose.other : Hose → Hose
  | .h1A => .h1B
  | .h1B => .h1A
  | .h2A => .h2B
  | .h2B => .h2A
  | .h3A => .h3B
  | .h3B => .h3A
  | .h4A => .h4B
  | .h4B => .h4A

/-- Hose A of a dispenser. -/
def Disp.hoseA : Disp → Hose
  | .d1 => .h1A
  | .d2 => .h2A
  | .d3 => .h3A
  | .d4 => .h4A

/-- Hose B of a dispenser. -/
def Disp.hoseB : Disp → Hose
  | .d1 => .h1B
  | .d2 => .h2B
  | .d3 => .h3B
  | .d4 => .h4B

end Sys2Proof
end

