-- ==== Sys2Proof/Machine/State.lean ====
section
/-! DEFINITION. The state of the FS-410: plain data, every record, list, timer and flag the manual gives the part, with
its value after power-on. `Plant` holds what the field band and the gas band own (and the notice queue, on which they
raise their notices); `Office` holds what the money band and the link own. Times are in milliseconds. -/

namespace Sys2Proof.Machine

/-- A timer: it holds its value while it is stopped, and the passing of time adds to it while it runs. -/
structure Timer where
  running : Bool
  ms : Nat
deriving DecidableEq, Repr

/-! ## Named values -/

/-- A grade of hose; a hose with none is ABSENT. -/
inductive Grade | h70 | h35
deriving DecidableEq, Repr

/-- The role of a bank in the cascade (R13). -/
inductive Tier | low | mid | high | bus
deriving DecidableEq, Repr

/-- The state of a bank (R15). -/
inductive BankState | idle | drawn | filling | isolated
deriving DecidableEq, Repr

/-- An isolation cause of a bank (R16). -/
inductive IsoCause | host | overpressure | sensor | trip
deriving DecidableEq, Repr

/-- Why a compressor is locked out (R33), or a stage is in FAULT (R38). -/
inductive FaultCause | fault | valveFault
deriving DecidableEq, Repr

/-- The state of a compressor, with the bank it fills in LOADED and its lockout cause in LOCKED_OUT (R27). -/
inductive CompState
  | stopped
  | starting
  | loaded (k : BankId)
  | unloaded
  | stopping
  | lockedOut (cause : FaultCause)
deriving DecidableEq, Repr

/-- The closing instruction of a compressor (R34). -/
inductive Shutdown | none | finish | stop
deriving DecidableEq, Repr

/-- The state of a chiller stage, with its fault cause in FAULT (R37, R38). -/
inductive StageState
  | off
  | starting
  | running
  | fault (cause : FaultCause)
deriving DecidableEq, Repr

/-- The class of a request in the grant list (R41). -/
inductive RequestClass | fill | compressor | standby
deriving DecidableEq, Repr

/-- Who holds a request in the grant list (R41). -/
inductive Requester
  | disp (d : Disp)
  | comp (c : CompId)
deriving DecidableEq, Repr

/-- A precool class, from highest to lowest (R48). -/
inductive PrecoolClass | t40 | t30 | t20 | none
deriving DecidableEq, Repr

/-- The state of a session (04, the state table). -/
inductive SessionState
  | idle | lifted | coupled | authorised | queued | precheck | waitPrecool | filling | ending | settled
deriving DecidableEq, Repr

/-- Why a QUEUED session waits (R61). -/
inductive WaitReason | otherHose | parked | hold
deriving DecidableEq, Repr

/-- The place of a QUEUED hose among its dispenser's (R61). -/
inductive QueuePos | first | second
deriving DecidableEq, Repr

/-- The communication mode of a fill (R68, R113). -/
inductive CommMode | comm | noncomm | lost
deriving DecidableEq, Repr

/-- The end reasons, in the order of precedence of R104. -/
inductive EndReason
  | stationTrip | overpressure | overtemp | breakaway | decoupled | sensorFault | valveFault | meterFault | leak
  | vehicleAbort | restart | stationClose | hostStop | allowance | massLimit | targetSoc | targetPressure | timeLimit
  | corridorHigh | corridorLow | stationHold | vehicleHalt | supplyExhausted | precoolLost | precoolUnavailable
  | tankEmpty | cancelled
deriving DecidableEq, Repr

/-- The result of a depot order: an end reason, or LAPSED (R131, R132). -/
inductive OrderResult
  | ended (r : EndReason)
  | lapsed
deriving DecidableEq, Repr

/-- Where a precheck pulse stands in the steps of R66: waiting for its valves, pulsing, waiting for Dn.PCV to close,
or settling. -/
inductive PulseStep | valves | pulsing | closing | settling
deriving DecidableEq, Repr

/-- The park state of a dispenser (R56). -/
inductive ParkState | active | parking | parked
deriving DecidableEq, Repr

/-- The station mode (R176). -/
inductive StationMode | closed | opened | closing
deriving DecidableEq, Repr

/-- The kind of a closing (R178), and of the orders it gives. -/
inductive CloseKind | finish | stop
deriving DecidableEq, Repr

/-- The state of a receiver (R110). -/
inductive ReceiverState | none | current | stale
deriving DecidableEq, Repr

/-- Why a vehicle frame was rejected (R108). -/
inductive Rejection | check | nwp | range | command
deriving DecidableEq, Repr

/-- The outcome a match record holds (R127). -/
inductive SeekOutcome | notFound | outOfTurn | refused
deriving DecidableEq, Repr

/-- The state of a credential entry that is not EMPTY. -/
inductive CredState | active | suspended
deriving DecidableEq, Repr

/-- Who pays for a credential's fills. -/
inductive CredKind | retail | fleet | service
deriving DecidableEq, Repr

/-- Why a batch closed (R161). -/
inductive CloseCause
  | count | timer | periodChange | flush | stationClose | restart | mismatch | full | evicted
deriving DecidableEq, Repr

/-- The readback of an output (R168). -/
inductive Readback | agrees | travelling | disagrees
deriving DecidableEq, Repr

/-- Which claim an output carries (R166). -/
inductive Owner | safety | function | manual | none
deriving DecidableEq, Repr

/-- Which edges of a switch or level are events (R165). -/
inductive EdgeSel | rising | falling | both | none
deriving DecidableEq, Repr

/-- The value of an output: a position (open, or on) of a VALVE point, or a pressure in kPa of a SETPOINT point. -/
inductive OutVal
  | position (isOpen : Bool)
  | setpoint (kPa : Nat)
deriving DecidableEq, Repr

/-- The status codes of a reply (R187). -/
inductive Status
  | ok | okAdjusted | okStored | unknownRequest | badLength | badValue | notPresent | wrongState | busy | notFound
  | duplicate | full | notConfigured | clockUnset | suspended | expired | gradeRefused | noAllowance
deriving DecidableEq, Repr

/-- A condition source (R181), as R190 lists them. -/
inductive Source
  | esd (d : Disp) | gdTrip (d : Disp) | caTrip | fd1 | fd2 | hostTrip
  | gdHold (d : Disp) | caHold | hostHold | chiller
deriving DecidableEq, Repr

/-! ## Point records (R165) -/

/-- The record of an output point; its effective owner and its fail-safe value follow from it and from its name. -/
structure OutRec where
  safety : Option OutVal
  function : Option OutVal
  manual : Option OutVal
  commanded : OutVal
  observed : Option OutVal
  readback : Readback
  travelMs : Nat
  travelLimit : Nat
deriving DecidableEq, Repr

/-- The record of a switch or level point; a level of `none` is UNKNOWN. -/
structure SwitchRec where
  level : Option Nat
  candidate : Option Nat
  debounceMs : Nat
  debounceTime : Nat
  edge : EdgeSel
  flag : Bool
  count : Nat
deriving DecidableEq, Repr

/-- The record of an analog point. -/
structure AnalogRec where
  value : Option Nat
  valid : Bool
  ageMs : Nat
deriving DecidableEq, Repr

/-- The record of a meter point: the increment and the FAULT status of its last report, and the time since it. -/
structure MeterRec where
  last : Option (Nat × Bool)
  ageMs : Nat
deriving DecidableEq, Repr

/-- The output records, by unit. -/
structure Outs where
  inlet : PerDisp (PerBank OutRec)
  pcv : PerDisp OutRec
  prv : PerDisp OutRec
  hv : PerHose OutRec
  compRun : PerComp OutRec
  discharge : PerComp (PerBank OutRec)
  stageRun : PerStage OutRec
deriving DecidableEq, Repr

/-- The switch and level records, by unit. -/
structure Switches where
  esd : PerDisp SwitchRec
  gd : PerDisp SwitchRec
  hol : PerHose SwitchRec
  cpl : PerHose SwitchRec
  brk : PerHose SwitchRec
  compFlt : PerComp SwitchRec
  stageFlt : PerStage SwitchRec
  fd1 : SwitchRec
  fd2 : SwitchRec
  caGd : SwitchRec
deriving DecidableEq, Repr

/-- The analog records, by unit. -/
structure Analogs where
  tg : PerDisp AnalogRec
  pt : PerHose AnalogRec
  bankPt : PerBank AnalogRec
  bankTt : PerBank AnalogRec
  supPt : AnalogRec
  ambTt : AnalogRec
deriving DecidableEq, Repr

/-! ## Supply and precooling -/

/-- The isolation causes of a bank. -/
structure IsoCauses where
  host : Bool
  overpressure : Bool
  sensor : Bool
  trip : Bool
deriving DecidableEq, Repr

/-- A bank record (02); its state follows from its causes, filler and drawers (R15). -/
structure BankRec where
  tier : Tier
  volume : Nat
  maxP : Nat
  refill : Nat
  floorP : Nat
  pressure : Option Nat
  temperature : Option Nat
  drawers : PerDisp Bool
  filler : Option CompId
  causes : IsoCauses
  inventory : Nat
deriving DecidableEq, Repr

/-- A compressor record (02); its grant request is read from the grant list (R44), and `prev` names its previous
discharge valve by the bank of its last fill (R31). -/
structure CompRec where
  state : CompState
  enabled : Bool
  shutdown : Shutdown
  startMs : Nat
  unloadMs : Nat
  stoppingMs : Nat
  prev : Option BankId
deriving DecidableEq, Repr

/-- A chiller stage record (03); an off timer of 60,000 ms is satisfied (R37). -/
structure StageRec where
  state : StageState
  startMs : Nat
  offMs : Nat
deriving DecidableEq, Repr

/-- A request of the grant list (R41). -/
structure Request where
  who : Requester
  cls : RequestClass
  demand : Nat
  granted : Bool
deriving DecidableEq, Repr

/-! ## Sessions and ramps -/

/-- The pause causes present, each with its pause timer in ms (R94). -/
structure Pauses where
  hold : Option Nat
  vehicleHalt : Option Nat
  supply : Option Nat
  bankSwitch : Option Nat
  corridorHigh : Option Nat
deriving DecidableEq, Repr

/-- A ramp record that is not empty (05, the ramp record). -/
structure RampRec where
  hose : Hose
  band : Nat
  cls : PrecoolClass
  comm : CommMode
  tableRate : Nat
  rate : Nat
  endP : Nat
  anchor : Nat
  clockMs : Nat
  target : Nat
  derate : Nat
  corrUp : Nat
  corrLow : Nat
  limitS : Nat
  pauses : Pauses
  lowHold : Bool
  lowMs : Nat
  fillMs : Nat
  running : Bool
deriving DecidableEq, Repr

/-- A session record (04, the session record), with the SOC frame of R112. Its grant is read from the grant list, and
its pause causes from the ramp record (R94: "the two are one set"). The last five fields hold what R66, R24, R49 and
R72 keep: where the pulse stands, Pa, the inlet a switch is leaving, and the classes at start and end. -/
structure Session where
  state : SessionState
  wait : Option WaitReason
  queuePos : Option QueuePos
  endReason : Option EndReason
  cred : Option Nat
  order : Option (Nat × Nat)
  ticket : Option Nat
  price : Option Nat
  periodId : Option Nat
  hold : Option Nat
  massLimit : Option Nat
  targetSoc : Option Nat
  comm : Option CommMode
  bank : Option BankId
  entered : Bool
  initialP : Option Nat
  finalP : Option Nat
  startSoc : Option Nat
  lastSoc : Option Nat
  startFrame : Option VehFrame
  socFrame : Option VehFrame
  verified : Nat
  unverified : Nat
  tainted : Bool
  coupling : Timer
  supplyWait : Timer
  pulse : Timer
  settle : Timer
  precoolWait : Timer
  afterflow : Timer
  pulseStep : Option PulseStep
  pa : Option Nat
  oldInlet : Option BankId
  classStart : Option PrecoolClass
  classEnd : Option PrecoolClass
deriving DecidableEq, Repr

/-- A dispenser context (R56), with the switch timer of R23 and the ramp record of its Ramp Unit (R85). -/
structure DispCtx where
  park : ParkState
  depotMode : Bool
  zeroCount : Nat
  silence : Timer
  switchT : Timer
  ramp : Option RampRec
deriving DecidableEq, Repr

/-- A Vehicle Line Receiver's record (R109); its state follows from it (R110). -/
structure Receiver where
  frame : Option VehFrame
  ageMs : Nat
  invalidRun : Nat
  validCount : Nat
  invalidCount : Nat
  lastRejection : Option Rejection
deriving DecidableEq, Repr

/-- The station-wide configuration the plant reads (R191). -/
structure StationCfg where
  keepCold : Nat
  corrUp : Nat
  corrLow : Nat
  margin : Nat
  limit70 : Nat
  limit35 : Nat
deriving DecidableEq, Repr

/-! ## Notices and replies -/

/-- A notice (R189), with the items its owning rule names. -/
inductive Notice
  | stationMode (mode : StationMode) (kind : Option CloseKind)
  | condition (hold trip : Bool) (sources : List Source)
  | pointEvent (p : SwitchPoint) (level count : Nat)
  | valveFault (p : OutPoint) (commanded : OutVal) (observed : Option OutVal) (owner : Owner)
  | session (h : Hose) (state : SessionState) (reason : Option EndReason) (ticket : Option Nat)
  | ticketReady (number : Nat)
  | batchClosed (number account : Nat) (cause : CloseCause) (tickets mass amount : Nat)
  | orderResult (bus : Nat) (h : Option Hose) (result : OrderResult) (ticket : Option Nat)
  | orderOutOfTurn (bus : Nat) (h : Hose) (position : Nat) (maskHas : Bool)
  | orderRefused (bus : Nat) (h : Hose) (code : Status)
  | bankState (k : BankId) (state : BankState) (causes : IsoCauses)
  | compressorState (c : CompId) (state : CompState)
  | stageState (s : StageId) (state : StageState)
  | dispenserParked (d : Disp)
deriving DecidableEq, Repr

/-- A reply waiting to be sent (R187): the kind of its request, its tag, its status, the notices-lost bit of its flags
byte, and the bytes of its items. -/
structure Reply where
  kind : Nat
  tag : Byte
  status : Status
  lost : Bool
  items : List Byte
deriving DecidableEq, Repr

/-- What the field band and the gas band own, and the notice queue. -/
structure Plant where
  mode : StationMode
  closeKind : Option CloseKind
  quiet : PerDisp Bool
  shutdownGiven : Bool
  hostHold : Bool
  hostTrip : Bool
  hold : Bool
  trip : Bool
  cfg : StationCfg
  grade : PerHose (Option Grade)
  derate : PerHose Nat
  outs : Outs
  switches : Switches
  analogs : Analogs
  meters : PerDisp MeterRec
  banks : PerBank BankRec
  comps : PerComp CompRec
  windowDemand : Nat
  stages : PerStage StageRec
  band : Nat
  candidate : Option (Nat × Nat)
  grants : List Request
  armT : PerDisp (Option Nat)
  keepT : PerDisp (Option Nat)
  reports : PerDisp Bool
  measured : PerDisp PrecoolClass
  stopT : Timer
  classSettle : PerDisp Timer
  classStep : PerDisp Timer
  sessions : PerHose Session
  disps : PerDisp DispCtx
  receivers : PerHose Receiver
  notices : List Notice
  lost : Bool
  /-- The model's own: a BANK_STATE change or a valid bank pressure sample of this event asks waiting sessions to renew
  their bank requests (R25). It is lowered by the end of the event. -/
  renewDue : Bool
deriving DecidableEq, Repr

/-! ## The money band -/

/-- A credential entry that is not EMPTY (08, the entry table). The money is held as integers, so that R134 is the
plain sum it states. -/
structure Cred where
  state : CredState
  issuer : Nat
  token : Nat
  kind : CredKind
  allows70 : Bool
  allows35 : Bool
  priceClass : Nat
  account : Option Nat
  massLimit : Option Nat
  amountCap : Option Nat
  expiryDay : Option Nat
  loaded : Int
  remaining : Int
  openHolds : Int
  consumed : Int
  openCount : Nat
deriving DecidableEq, Repr

/-- A station clock value (R147). -/
structure Clock where
  day : Nat
  second : Nat
deriving DecidableEq, Repr

/-- What a ticket is given at finalisation (09, the ticket table). -/
structure TicketEnd where
  time : Clock
  verified : Nat
  unverified : Nat
  amount : Nat
  covered : Nat
  shortfall : Nat
  reason : EndReason
  comm : Option CommMode
  startSoc : Option Nat
  endSoc : Option Nat
  estimate : Option Nat
  initialP : Option Nat
  finalP : Option Nat
  classStart : Option PrecoolClass
  classEnd : Option PrecoolClass
  tainted : Bool
  discrepancy : Bool
  batch : Option Nat
deriving DecidableEq, Repr

/-- A ticket's opening fields (R153). -/
structure Ticket where
  number : Nat
  hose : Hose
  grade : Grade
  cred : Nat
  kind : CredKind
  account : Option Nat
  bus : Option Nat
  start : Clock
  periodId : Nat
  price : Nat
  hold : Nat
deriving DecidableEq, Repr

/-- A finalised ticket (R154). -/
structure FinalTicket where
  base : Ticket
  fin : TicketEnd
deriving DecidableEq, Repr

/-- A batch (09, the batch table) as it is built: the tickets in order of appending, and the open timer in ms. -/
structure Batch where
  number : Nat
  account : Nat
  grade : Grade
  periodId : Nat
  price : Nat
  tickets : List Nat
  mass : Nat
  amount : Nat
  opened : Clock
  openMs : Nat
  limitMin : Nat
deriving DecidableEq, Repr

/-- A closed batch (R160). -/
structure ClosedBatch where
  batch : Batch
  cause : CloseCause
  closed : Clock
deriving DecidableEq, Repr

/-- The prices of one grade in the four price classes. -/
structure Prices where
  p0 : Nat
  p1 : Nat
  p2 : Nat
  p3 : Nat
deriving DecidableEq, Repr

/-- A tariff period (R149). -/
structure Period where
  start : Nat
  h70 : Prices
  h35 : Prices
deriving DecidableEq, Repr

/-- A depot order (07, the order table). -/
structure Order where
  busId : Nat
  credIndex : Nat
  targetSoc : Nat
  expectedMass : Nat
  mask : PerDisp Bool
  deadline : Option Clock
deriving DecidableEq, Repr

/-- A binding place that holds an in-service order (R119): the order, its hose being the place's, and its ticket. -/
structure Binding where
  order : Order
  ticket : Nat
deriving DecidableEq, Repr

/-- The match record of a hose (R127): the vehicle id last sought, and the outcome. -/
structure MatchRec where
  vehicleId : Nat
  outcome : SeekOutcome
deriving DecidableEq, Repr

/-- The discard counts of the framer (R186), each held at 65,535. -/
structure Counts where
  check : Nat
  length : Nat
  gap : Nat
  kind : Nat
  overrun : Nat
deriving DecidableEq, Repr

/-- What the money band and the Station Link Controller own. `creds` lists the entries that are not EMPTY by index;
`framer` holds the bytes of the frame being received after and with its marker, empty in HUNT; `line` holds the bytes of
the frame the transmitter last began to send. -/
structure Office where
  clock : Option Clock
  clockMs : Nat
  tariff : Option (List Period)
  periodId : Nat
  creds : List (Nat × Cred)
  openTickets : List Ticket
  finalised : List FinalTicket
  nextTicket : Nat
  openBatches : List Batch
  closedBatches : List ClosedBatch
  nextBatch : Nat
  batchTimer : Nat
  batchLimit : Nat
  queue : List Order
  bindings : PerHose (Option Binding)
  seeks : PerHose (Option MatchRec)
  framer : List Byte
  gapMs : Nat
  counts : Counts
  replies : List Reply
  line : List Byte
deriving DecidableEq, Repr

/-- The state of the part and the commands that wait, first in first out. -/
structure State where
  plant : Plant
  office : Office
  pending : List Instr
deriving DecidableEq, Repr

/-- The reasons to stop with a fault. There are none: every rule of the manual gives its event an effect and lets the
part go on, so no meaning raises one (safe: nothing is stopped). -/
inductive Fault : Type
deriving DecidableEq, Repr

/-- The reasons to refuse a command. -/
inductive Refusal
  /-- Raised by `exec` alone, for a command that has no meaning yet; no arm raises it (safe: nothing is claimed of it). -/
  | notModelled (mnemonic : String)
deriving DecidableEq, Repr

/-! ## Values after power-on -/

/-- A timer that is stopped at zero. -/
def Timer.zero : Timer := ⟨false, 0⟩

/-- The record of an output after power-on: no claim, TRAVELLING toward its fail-safe value (R165, R168). -/
def OutRec.powerOn (failSafe : OutVal) : OutRec :=
  ⟨none, none, none, failSafe, none, .travelling, 0, 3000⟩

/-- The record of a switch or level after power-on (R165). DESIGN CHOICE (assumption 5): no candidate, and the debounce
timer 0. -/
def SwitchRec.powerOn (edge : EdgeSel) : SwitchRec := ⟨none, none, 0, 50, edge, false, 0⟩

/-- The record of an analog point after power-on (R165). -/
def AnalogRec.powerOn : AnalogRec := ⟨none, false, 0⟩

/-- The output records after power-on. -/
def Outs.powerOn : Outs :=
  let valve := OutRec.powerOn (.position false)
  { inlet := .make fun _ => .make fun _ => valve
    pcv := .make fun _ => OutRec.powerOn (.setpoint 0)
    prv := .make fun _ => valve
    hv := .make fun _ => valve
    compRun := .make fun _ => valve
    discharge := .make fun _ => .make fun _ => valve
    stageRun := .make fun _ => valve }

/-- The switch and level records after power-on, with the edge selections of R165. -/
def Switches.powerOn : Switches :=
  { esd := .make fun _ => SwitchRec.powerOn .rising
    gd := .make fun _ => SwitchRec.powerOn .both
    hol := .make fun _ => SwitchRec.powerOn .none
    cpl := .make fun _ => SwitchRec.powerOn .none
    brk := .make fun _ => SwitchRec.powerOn .rising
    compFlt := .make fun _ => SwitchRec.powerOn .rising
    stageFlt := .make fun _ => SwitchRec.powerOn .rising
    fd1 := SwitchRec.powerOn .rising
    fd2 := SwitchRec.powerOn .rising
    caGd := SwitchRec.powerOn .both }

/-- The analog records after power-on. -/
def Analogs.powerOn : Analogs :=
  { tg := .make fun _ => AnalogRec.powerOn
    pt := .make fun _ => AnalogRec.powerOn
    bankPt := .make fun _ => AnalogRec.powerOn
    bankTt := .make fun _ => AnalogRec.powerOn
    supPt := AnalogRec.powerOn
    ambTt := AnalogRec.powerOn }

/-- A bank after power-on (R13, R14, R17): its configuration, no samples, and the cause SENSOR alone. -/
def BankRec.powerOn (tier : Tier) (volume maxP refill floorP : Nat) : BankRec :=
  { tier, volume, maxP, refill, floorP
    pressure := none
    temperature := none
    drawers := .make fun _ => false
    filler := none
    causes := ⟨false, false, true, false⟩
    inventory := 0 }

/-- A session after power-on (R55). -/
def Session.powerOn : Session :=
  { state := .idle, wait := none, queuePos := none, endReason := none, cred := none, order := none, ticket := none
    price := none, periodId := none, hold := none, massLimit := none, targetSoc := none, comm := none, bank := none
    entered := false, initialP := none, finalP := none, startSoc := none, lastSoc := none, startFrame := none
    socFrame := none, verified := 0, unverified := 0, tainted := false
    coupling := .zero, supplyWait := .zero, pulse := .zero, settle := .zero, precoolWait := .zero, afterflow := .zero
    pulseStep := none, pa := none, oldInlet := none, classStart := none, classEnd := none }

/-- A receiver that is cleared (R109). -/
def Receiver.cleared : Receiver := ⟨none, 0, 0, 0, 0, none⟩

/-- The plant after power-on. -/
def Plant.powerOn : Plant :=
  { mode := .closed
    closeKind := none
    quiet := .make fun _ => false
    shutdownGiven := false
    hostHold := false
    hostTrip := false
    hold := false
    trip := false
    cfg := { keepCold := 10, corrUp := 5000, corrLow := 7000, margin := 30, limit70 := 900, limit35 := 1800 }
    grade := ⟨some .h70, some .h35, some .h70, some .h35, some .h35, some .h35, some .h35, some .h35⟩
    derate := .make fun _ => 100
    outs := .powerOn
    switches := .powerOn
    analogs := .powerOn
    meters := .make fun _ => ⟨none, 0⟩
    banks :=
      { b1 := .powerOn .low 3000 50000 40000 10000
        b2 := .powerOn .mid 3000 70000 60000 25000
        b3 := .powerOn .high 2000 95000 85000 45000
        b4 := .powerOn .high 2000 95000 85000 45000
        b5 := .powerOn .bus 6000 50000 42000 10000
        b6 := .powerOn .bus 6000 50000 42000 10000 }
    comps := .make fun _ => ⟨.stopped, false, .none, 0, 0, 0, none⟩
    windowDemand := 0
    stages := .make fun _ => ⟨.off, 0, 0⟩
    band := 6
    candidate := none
    grants := []
    armT := .make fun _ => none
    keepT := .make fun _ => none
    reports := .make fun _ => false
    measured := .make fun _ => .none
    stopT := .zero
    classSettle := .make fun _ => .zero
    classStep := .make fun _ => .zero
    sessions := .make fun _ => .powerOn
    disps := .make fun d => ⟨.active, d = .d3 ∨ d = .d4, 0, .zero, .zero, none⟩
    receivers := .make fun _ => .cleared
    notices := []
    lost := false
    renewDue := false }

/-- The office after power-on. -/
def Office.powerOn : Office :=
  { clock := none
    clockMs := 0
    tariff := none
    periodId := 0
    creds := []
    openTickets := []
    finalised := []
    nextTicket := 1
    openBatches := []
    closedBatches := []
    nextBatch := 1
    batchTimer := 60
    batchLimit := 500000
    queue := []
    bindings := .make fun _ => none
    seeks := .make fun _ => none
    framer := []
    gapMs := 0
    counts := ⟨0, 0, 0, 0, 0⟩
    replies := []
    line := [] }

/-- The machine right after power-on (R176 and the power-on values of every chapter), with no command waiting. -/
def State.reset : State := { plant := .powerOn, office := .powerOn, pending := [] }

end Sys2Proof.Machine
end

