-- ==== Sys2Proof/Machine/Arithmetic.lean ====
section
/-! DEFINITION. The arithmetic of the part: gas quantity (01), billing (R146), ambient bands and precool classes
(R39, R48, R87), the ramp-rate and end-pressure tables (05), and the order of end reasons (R104). All of it is exact,
and every division rounds down. -/

namespace Sys2Proof.Machine

/-- `x` clamped to `lo` to `hi`. -/
def clamp (lo hi x : Nat) : Nat := if x < lo then lo else if hi < x then hi else x

/-! ## Gas quantity -/

/-- Stage 1 (R3), on clamped inputs (R1): the corrected temperature D. -/
def gasD (p t : Nat) : Nat := clamp 2000 3730 t + clamp 0 100000 p * 37 / 2000

/-- Stage 2 (R4): the gas quantity N. -/
def gasN (p t : Nat) : Nat := clamp 0 100000 p * 65536 / gasD p t

/-- The reference quantities (R5). -/
def gasNref : Grade → Nat
  | .h70 => 1098807
  | .h35 => 650343

/-- Stage 3a (R6): the state of charge, in tenths of a percent. -/
def soc (g : Grade) (p t : Nat) : Nat := min 1000 (gasN p t * 1000 / gasNref g)

/-- Stage 3b (R7): the mass in a vessel, in grams. -/
def gasMass (p t v : Nat) : Nat := gasN p t * clamp 1 20000 v * 37 / 1000000

/-- The usable inventory of a bank (R8): 0 where the floor pressure is at or above the bank's pressure, and where the floor
term is the larger (the masses are not monotone in the pressure, since R3 rounds D down). -/
def usableInventory (p t v floorP : Nat) : Nat := if p ≤ floorP then 0 else gasMass p t v - gasMass floorP t v

/-! ## Money -/

/-- The amount in cents for a price in milli/kg and a mass in grams (R146). -/
def billAmount (price mass : Nat) : Nat := (price * mass + 5000) / 10000

/-! ## Ambient and precool classes -/

/-- The ambient band of a sample in dK (03; R87): floor((A + 200) / 100) clamped to 0 to 6, with A = dK − 2732. -/
def ambientBand (dK : Nat) : Nat := min 6 ((((dK : Int) - 2732 + 200) / 100).toNat)

/-- The precool class of a gas temperature sample in dK (R48). -/
def classOf (dK : Nat) : PrecoolClass :=
  let a : Int := (dK : Int) - 2732
  if a ≤ -330 then .t40 else if a ≤ -230 then .t30 else if a ≤ -130 then .t20 else .none

/-- The place of a class from highest (0) to lowest (3). -/
def PrecoolClass.depth : PrecoolClass → Nat
  | .t40 => 0
  | .t30 => 1
  | .t20 => 2
  | .none => 3

/-- One class down (R50). -/
def PrecoolClass.down : PrecoolClass → PrecoolClass
  | .t40 => .t30
  | .t30 => .t20
  | .t20 => .none
  | .none => .none

/-- The stage capacity in kW by chiller ambient band (R40). -/
def stageCapacity (band : Nat) : Nat := if band ≤ 4 then 15 else if band = 5 then 12 else 9

/-! ## Ramp tables (05) -/

/-- One row of the ramp-rate table. -/
structure RateRow where
  t40 : Nat
  t30 : Nat
  t20 : Nat
  none : Nat
deriving DecidableEq, Repr

/-- The entry of a row for a class. -/
def RateRow.entry (r : RateRow) : PrecoolClass → Nat
  | .t40 => r.t40
  | .t30 => r.t30
  | .t20 => r.t20
  | .none => r.none

/-- The row of the ramp-rate table for a grade and a band. -/
def rateRow : Grade → Nat → RateRow
  | .h70, 0 => ⟨500, 420, 300, 120⟩
  | .h70, 1 => ⟨480, 380, 260, 80⟩
  | .h70, 2 => ⟨450, 340, 220, 0⟩
  | .h70, 3 => ⟨400, 290, 170, 0⟩
  | .h70, 4 => ⟨340, 230, 120, 0⟩
  | .h70, 5 => ⟨260, 160, 0, 0⟩
  | .h70, _ => ⟨180, 90, 0, 0⟩
  | .h35, 0 => ⟨300, 300, 250, 200⟩
  | .h35, 1 => ⟨300, 280, 230, 160⟩
  | .h35, 2 => ⟨280, 250, 200, 120⟩
  | .h35, 3 => ⟨250, 220, 170, 80⟩
  | .h35, 4 => ⟨220, 180, 130, 0⟩
  | .h35, 5 => ⟨180, 140, 80, 0⟩
  | .h35, _ => ⟨140, 90, 0, 0⟩

/-- The table rate in kPa/s for a grade, band and class. -/
def rateEntry (g : Grade) (band : Nat) (c : PrecoolClass) : Nat := (rateRow g band).entry c

/-- The mode factor of R88. -/
def modeFactor : CommMode → Nat
  | .comm => 100
  | .noncomm | .lost => 80

/-- The effective rate (R88). -/
def effectiveRate (table derate : Nat) (m : CommMode) : Nat := table * derate * modeFactor m / 10000

/-- The end pressure in kPa (R89). -/
def endPressure (m : CommMode) (g : Grade) (band : Nat) : Nat :=
  match m, g with
  | .comm, .h70 => 87500
  | .comm, .h35 => 43750
  | _, .h70 =>
    match band with
    | 0 => 68000 | 1 => 70000 | 2 => 72000 | 3 => 75000 | 4 => 78000 | 5 => 80000 | _ => 82000
  | _, .h35 =>
    match band with
    | 0 => 34000 | 1 => 35000 | 2 => 36000 | 3 => 37500 | 4 => 39000 | 5 => 40000 | _ => 41000

/-- The chiller demand of a fill in kW (03, "Requests"). -/
def fillDemand : Grade → Nat
  | .h70 => 12
  | .h35 => 8

/-! ## End reasons -/

/-- The place of an end reason in the precedence of R104, from 0. -/
def EndReason.place : EndReason → Nat
  | .stationTrip => 0
  | .overpressure => 1
  | .overtemp => 2
  | .breakaway => 3
  | .decoupled => 4
  | .sensorFault => 5
  | .valveFault => 6
  | .meterFault => 7
  | .leak => 8
  | .vehicleAbort => 9
  | .restart => 10
  | .stationClose => 11
  | .hostStop => 12
  | .allowance => 13
  | .massLimit => 14
  | .targetSoc => 15
  | .targetPressure => 16
  | .timeLimit => 17
  | .corridorHigh => 18
  | .corridorLow => 19
  | .stationHold => 20
  | .vehicleHalt => 21
  | .supplyExhausted => 22
  | .precoolLost => 23
  | .precoolUnavailable => 24
  | .tankEmpty => 25
  | .cancelled => 26

/-- The reason recorded where an event meets the reasons listed (R104): the one that stands first in the precedence. -/
def firstReason : List EndReason → Option EndReason
  | [] => none
  | r :: rs =>
    match firstReason rs with
    | none => some r
    | some q => if q.place < r.place then some q else some r

/-- The reason of a condition, where it is met. -/
def reasonIf (b : Bool) (r : EndReason) : List EndReason := if b then [r] else []

end Sys2Proof.Machine
end

