-- ==== Sys2Proof/Machine/Codec.lean ====
section
/-! DEFINITION. The bytes of the link (R185, R190): big-endian fields, the check, the codes of named values, units and
points, and the items that may be absent. -/

namespace Sys2Proof

/-! ## Units and points (R190) -/

def Disp.number : Disp → Nat
  | .d1 => 1 | .d2 => 2 | .d3 => 3 | .d4 => 4

def BankId.number : BankId → Nat
  | .b1 => 1 | .b2 => 2 | .b3 => 3 | .b4 => 4 | .b5 => 5 | .b6 => 6

def CompId.number : CompId → Nat
  | .c1 => 1 | .c2 => 2

def StageId.number : StageId → Nat
  | .s1 => 1 | .s2 => 2 | .s3 => 3

def Hose.byte : Hose → Nat
  | .h1A => 0x1A | .h1B => 0x1B | .h2A => 0x2A | .h2B => 0x2B
  | .h3A => 0x3A | .h3B => 0x3B | .h4A => 0x4A | .h4B => 0x4B

def Disp.byte (d : Disp) : Nat := 0xD0 + d.number
def BankId.byte (k : BankId) : Nat := 0xB0 + k.number
def CompId.byte (c : CompId) : Nat := 0xC0 + c.number
def StageId.byte (s : StageId) : Nat := 0x50 + s.number

/-- The unit of the station's own points. -/
def stationByte : Nat := 0xF0

/-- The unit byte and the point byte of a point: its position in its unit's rows of the point table. -/
def Point.bytes : Point → Nat × Nat
  | .out (.inlet d k) => (d.byte, k.number - 1)
  | .out (.pcv d) => (d.byte, 6)
  | .out (.prv d) => (d.byte, 7)
  | .analog (.tg d) => (d.byte, 8)
  | .meter d => (d.byte, 9)
  | .switch (.esd d) => (d.byte, 10)
  | .switch (.gd d) => (d.byte, 11)
  | .out (.hv h) => (h.byte, 0)
  | .switch (.hol h) => (h.byte, 1)
  | .switch (.cpl h) => (h.byte, 2)
  | .switch (.brk h) => (h.byte, 3)
  | .analog (.pt h) => (h.byte, 4)
  | .analog (.bankPt k) => (k.byte, 0)
  | .analog (.bankTt k) => (k.byte, 1)
  | .out (.compRun c) => (c.byte, 0)
  | .out (.discharge c k) => (c.byte, k.number)
  | .switch (.compFlt c) => (c.byte, 7)
  | .out (.stageRun s) => (s.byte, 0)
  | .switch (.stageFlt s) => (s.byte, 1)
  | .analog .supPt => (stationByte, 0)
  | .analog .ambTt => (stationByte, 1)
  | .switch .fd1 => (stationByte, 2)
  | .switch .fd2 => (stationByte, 3)
  | .switch .caGd => (stationByte, 4)

def PauseCause.code : PauseCause → Nat
  | .hold => 0 | .vehicleHalt => 1 | .supply => 2 | .bankSwitch => 3 | .corridorHigh => 4

end Sys2Proof

namespace Sys2Proof.Machine

/-! ## Bytes -/

/-- The number a run of bytes spells, most significant byte first. -/
def beNat (bs : List Byte) : Nat := bs.foldl (fun n b => n * 256 + b.toNat) 0

/-- A number in `n` bytes, most significant byte first. -/
def beBytes : Nat → Nat → List Byte
  | 0, _ => []
  | n + 1, x => beBytes n (x / 256) ++ [BitVec.ofNat 8 x]

def u8 (x : Nat) : List Byte := beBytes 1 x
def u16 (x : Nat) : List Byte := beBytes 2 x
def u32 (x : Nat) : List Byte := beBytes 4 x
def u64 (x : Nat) : List Byte := beBytes 8 x

/-- Money held as an integer, in its 4 bytes. -/
def uMoney (x : Int) : List Byte := u32 x.toNat

/-- Yes or no, on or off (R190). -/
def yesNo (b : Bool) : List Byte := u8 (if b then 1 else 0)

/-- One bit of a set at its position. -/
def bit (b : Bool) (k : Nat) : Nat := if b then 2 ^ k else 0

/-- An item that may be absent: a marker byte, and the item or as many zeros (R190). -/
def optItem (n : Nat) : Option Nat → List Byte
  | none => u8 0 ++ beBytes n 0
  | some x => u8 1 ++ beBytes n x

/-- An item that may be INVALID (R190). -/
def validItem (n : Nat) : Option Nat → List Byte
  | none => u8 2 ++ beBytes n 0
  | some x => u8 1 ++ beBytes n x

/-- A list: a count byte followed by its entries (R190). -/
def listItem (xs : List (List Byte)) : List Byte := u8 xs.length ++ xs.flatten

/-! ## The check (R185, R107) -/

/-- One bit of the check: shift left, and combine 0x1021 where a 1 left the register. -/
def crcBit (r : Crc) : Crc := if r.msb then (r <<< 1) ^^^ 0x1021#16 else r <<< 1

/-- One byte of the check, most significant bit first. -/
def crcByte (r : Crc) (b : Byte) : Crc :=
  let r := r ^^^ (b.zeroExtend 16 <<< 8)
  crcBit (crcBit (crcBit (crcBit (crcBit (crcBit (crcBit (crcBit r)))))))

/-- The check of a run of bytes: the register starts at 0xFFFF. -/
def crc16 (bs : List Byte) : Crc := bs.foldl crcByte 0xFFFF#16

/-! ## Codes of named values (R190: the position in the list where the value is first defined) -/

def gradeCode : Option Grade → Nat
  | some .h70 => 0
  | some .h35 => 1
  | none => 2

def Tier.code : Tier → Nat
  | .low => 0 | .mid => 1 | .high => 2 | .bus => 3

def BankState.code : BankState → Nat
  | .idle => 0 | .drawn => 1 | .filling => 2 | .isolated => 3

def IsoCauses.code (c : IsoCauses) : Nat := bit c.host 0 + bit c.overpressure 1 + bit c.sensor 2 + bit c.trip 3

def FaultCause.code : FaultCause → Nat
  | .fault => 0 | .valveFault => 1

def CompState.code : CompState → Nat
  | .stopped => 0 | .starting => 1 | .loaded _ => 2 | .unloaded => 3 | .stopping => 4 | .lockedOut _ => 5

def Shutdown.code : Shutdown → Nat
  | .none => 0 | .finish => 1 | .stop => 2

def StageState.code : StageState → Nat
  | .off => 0 | .starting => 1 | .running => 2 | .fault _ => 3

def RequestClass.code : RequestClass → Nat
  | .fill => 0 | .compressor => 1 | .standby => 2

/-- A precool class is coded by its place from highest to lowest. -/
def PrecoolClass.code (c : PrecoolClass) : Nat := c.depth

def SessionState.code : SessionState → Nat
  | .idle => 0 | .lifted => 1 | .coupled => 2 | .authorised => 3 | .queued => 4 | .precheck => 5
  | .waitPrecool => 6 | .filling => 7 | .ending => 8 | .settled => 9

def WaitReason.code : WaitReason → Nat
  | .otherHose => 0 | .parked => 1 | .hold => 2

def QueuePos.code : QueuePos → Nat
  | .first => 0 | .second => 1

def CommMode.code : CommMode → Nat
  | .comm => 0 | .noncomm => 1 | .lost => 2

def ParkState.code : ParkState → Nat
  | .active => 0 | .parking => 1 | .parked => 2

def StationMode.code : StationMode → Nat
  | .closed => 0 | .opened => 1 | .closing => 2

def CloseKind.code : CloseKind → Nat
  | .finish => 0 | .stop => 1

def ReceiverState.code : ReceiverState → Nat
  | .none => 0 | .current => 1 | .stale => 2

def Rejection.code : Rejection → Nat
  | .check => 0 | .nwp => 1 | .range => 2 | .command => 3

def CredState.code : CredState → Nat
  | .active => 1 | .suspended => 2

def CredKind.code : CredKind → Nat
  | .retail => 0 | .fleet => 1 | .service => 2

def CloseCause.code : CloseCause → Nat
  | .count => 0 | .timer => 1 | .periodChange => 2 | .flush => 3 | .stationClose => 4 | .restart => 5
  | .mismatch => 6 | .full => 7 | .evicted => 8

def Readback.code : Readback → Nat
  | .agrees => 0 | .travelling => 1 | .disagrees => 2

def Owner.code : Owner → Nat
  | .safety => 0 | .function => 1 | .manual => 2 | .none => 3

def EdgeSel.code : EdgeSel → Nat
  | .rising => 0 | .falling => 1 | .both => 2 | .none => 3

/-- The code of a result: the end reasons in the order of R104, followed by LAPSED (R131). -/
def OrderResult.code : OrderResult → Nat
  | .ended r => r.place
  | .lapsed => 27

/-- The status codes (R187). -/
def Status.code : Status → Nat
  | .ok => 0x00 | .okAdjusted => 0x01 | .okStored => 0x02 | .unknownRequest => 0x03 | .badLength => 0x04
  | .badValue => 0x05 | .notPresent => 0x06 | .wrongState => 0x07 | .busy => 0x08 | .notFound => 0x09
  | .duplicate => 0x0A | .full => 0x0B | .notConfigured => 0x0C | .clockUnset => 0x0D | .suspended => 0x0E
  | .expired => 0x0F | .gradeRefused => 0x10 | .noAllowance => 0x11

/-- The position of a condition source in the 4-byte set (R190). -/
def Source.position : Source → Nat
  | .esd .d1 => 0 | .esd .d2 => 1 | .esd .d3 => 2 | .esd .d4 => 3
  | .gdTrip .d1 => 4 | .gdTrip .d2 => 5 | .gdTrip .d3 => 6 | .gdTrip .d4 => 7
  | .caTrip => 8
  | .fd1 => 9
  | .fd2 => 10
  | .hostTrip => 11
  | .gdHold .d1 => 12 | .gdHold .d2 => 13 | .gdHold .d3 => 14 | .gdHold .d4 => 15
  | .caHold => 16
  | .hostHold => 17
  | .chiller => 18

/-- The 4-byte set of condition sources. -/
def sourcesCode (ss : List Source) : Nat := (ss.map fun x => 2 ^ x.position).sum

/-- A point as it is sent. -/
def pointItem (p : Point) : List Byte := u8 p.bytes.1 ++ u8 p.bytes.2

/-- An output's value as it is sent: a position in 1 byte (1 open or on, 0 closed or off), a setpoint in 4. -/
def OutVal.item : OutVal → List Byte
  | .position b => yesNo b
  | .setpoint p => u32 p

/-- An output's value that may be absent, the width being that of the point's own values. -/
def optOutVal (wide : Bool) : Option OutVal → List Byte
  | none => u8 0 ++ (if wide then u32 0 else u8 0)
  | some v => u8 1 ++ v.item

/-- A set of dispensers, bit k for D(k+1). -/
def dispSetCode (t : PerDisp Bool) : Nat := bit t.d1 0 + bit t.d2 1 + bit t.d3 2 + bit t.d4 3

/-- A clock value as it is sent: day in 2 bytes, second in 4. -/
def Clock.item (c : Clock) : List Byte := u16 c.day ++ u32 c.second

/-- A clock value that may be absent. -/
def optClock : Option Clock → List Byte
  | none => u8 0 ++ u16 0 ++ u32 0
  | some c => u8 1 ++ c.item

/-- The kind byte and the body of a notice (R189): the items its owning rule names, in order. -/
def Notice.body : Notice → Nat × List Byte
  | .stationMode m k => (0x40, u8 m.code ++ optItem 1 (k.map CloseKind.code))
  | .condition h t ss => (0x41, yesNo h ++ yesNo t ++ u32 (sourcesCode ss))
  | .pointEvent p l n => (0x42, pointItem (.switch p) ++ u8 l ++ u8 n)
  | .valveFault p c o w =>
    let wide := match p with | .pcv _ => true | _ => false
    (0x43, pointItem (.out p) ++ c.item ++ optOutVal wide o ++ u8 w.code)
  | .session h st r t => (0x44, u8 h.byte ++ u8 st.code ++ optItem 1 (r.map EndReason.place) ++ optItem 4 t)
  | .ticketReady n => (0x45, u32 n)
  | .batchClosed n a c k m x => (0x46, u32 n ++ u32 a ++ u8 c.code ++ u8 k ++ u32 m ++ u32 x)
  | .orderResult b h r t => (0x47, u32 b ++ optItem 1 (h.map Hose.byte) ++ u8 (r.code) ++ optItem 4 t)
  | .orderOutOfTurn b h p m => (0x48, u32 b ++ u8 h.byte ++ u8 p ++ yesNo m)
  | .orderRefused b h c => (0x49, u32 b ++ u8 h.byte ++ u8 c.code)
  | .bankState k st c => (0x4A, u8 k.number ++ u8 st.code ++ u8 c.code)
  | .compressorState c st =>
    (0x4B, u8 c.number ++ u8 st.code
      ++ optItem 1 (match st with | .loaded k => some k.number | _ => none)
      ++ optItem 1 (match st with | .lockedOut f => some f.code | _ => none))
  | .stageState s st =>
    (0x4C, u8 s.number ++ u8 st.code ++ optItem 1 (match st with | .fault f => some f.code | _ => none))
  | .dispenserParked d => (0x4D, u8 d.number)
/-- A frame of the link (R185): marker, length, kind, tag, body and check. -/
def linkFrame (kind : Nat) (tag : Byte) (body : List Byte) : List Byte :=
  let covered := u16 (body.length + 2) ++ u8 kind ++ [tag] ++ body
  0x7E#8 :: covered ++ u16 (crc16 covered).toNat

/-- The frame of a reply (R187): the request's kind plus 0x80, its tag, the status and flags bytes, and the items. -/
def Reply.frame (r : Reply) : List Byte :=
  linkFrame (r.kind + 0x80) r.tag (u8 r.status.code ++ u8 (bit r.lost 0) ++ r.items)

/-- The frame of a notice: its code, tag 0, and its items. -/
def Notice.frame (n : Notice) : List Byte := linkFrame n.body.1 0#8 n.body.2

end Sys2Proof.Machine
end

