-- ==== Sys2Proof/Machine/Operands.lean ====
section
/-! DEFINITION. What the numbers of a request name (R190): units, points and named values, with none where a number names
nothing. -/

namespace Sys2Proof

/-- The unit of a list whose number is given. -/
def unitBy (number : α → Nat) (xs : List α) (n : Nat) : Option α := xs.find? fun x => number x = n

/-- The dispenser of a number. -/
def dispOf (n : Nat) : Option Disp := unitBy Disp.number Disp.all n

/-- The hose of a hose byte. -/
def hoseOf (n : Nat) : Option Hose := unitBy Hose.byte Hose.all n

/-- The bank of a number. -/
def bankOf (n : Nat) : Option BankId := unitBy BankId.number BankId.all n

/-- The compressor of a number. -/
def compOf (n : Nat) : Option CompId := unitBy CompId.number CompId.all n

/-- The stage of a number. -/
def stageOf (n : Nat) : Option StageId := unitBy StageId.number StageId.all n

/-- The points of a dispenser, in the order of the table. -/
def Disp.points (d : Disp) : List Point :=
  (BankId.all.map fun k => Point.out (.inlet d k)) ++
    [.out (.pcv d), .out (.prv d), .analog (.tg d), .meter d, .switch (.esd d), .switch (.gd d)]

/-- The points of a hose. -/
def Hose.points (h : Hose) : List Point :=
  [.out (.hv h), .switch (.hol h), .switch (.cpl h), .switch (.brk h), .analog (.pt h)]

/-- The points of a bank. -/
def BankId.points (k : BankId) : List Point := [.analog (.bankPt k), .analog (.bankTt k)]

/-- The points of a compressor. -/
def CompId.points (c : CompId) : List Point :=
  [.out (.compRun c)] ++ (BankId.all.map fun k => Point.out (.discharge c k)) ++ [.switch (.compFlt c)]

/-- The points of a stage. -/
def StageId.points (s : StageId) : List Point := [.out (.stageRun s), .switch (.stageFlt s)]

/-- The station's own points. -/
def stationPoints : List Point :=
  [.analog .supPt, .analog .ambTt, .switch .fd1, .switch .fd2, .switch .caGd]

/-- The 127 points of the table (R164). -/
def Point.all : List Point :=
  Disp.all.flatMap Disp.points ++ Hose.all.flatMap Hose.points ++ BankId.all.flatMap BankId.points
    ++ CompId.all.flatMap CompId.points ++ StageId.all.flatMap StageId.points ++ stationPoints

/-- The point of a unit byte and a point byte. -/
def pointOf (u n : Nat) : Option Point := Point.all.find? fun x => x.bytes = (u, n)

/-- The hose of a point of a hose. -/
def Point.hose : Point → Option Hose
  | .out (.hv h) => some h
  | .switch (.hol h) => some h
  | .switch (.cpl h) => some h
  | .switch (.brk h) => some h
  | .analog (.pt h) => some h
  | _ => none

/-- The hose of a switch or level point of a hose. -/
def SwitchPoint.hose : SwitchPoint → Option Hose
  | .hol h => some h
  | .cpl h => some h
  | .brk h => some h
  | _ => none

/-- The levels a switch or level point can be at: 0 and 1, and 2 for a LEVEL point. -/
def SwitchPoint.top : SwitchPoint → Nat
  | .gd _ => 2
  | .caGd => 2
  | _ => 1

/-- Whether an output is the setpoint of a pressure-control valve. -/
def OutPoint.isSetpoint : OutPoint → Bool
  | .pcv _ => true
  | _ => false

/-- The width of an analog point's value: a temperature in 2 bytes, a pressure in 4. -/
def AnalogPoint.width : AnalogPoint → Nat
  | .tg _ => 2
  | .bankTt _ => 2
  | .ambTt => 2
  | _ => 4

end Sys2Proof

namespace Sys2Proof.Machine

/-- The grade of a code: H70, H35 or ABSENT. -/
def gradeOf (n : Nat) : Option (Option Grade) :=
  match n with
  | 0 => some (some .h70)
  | 1 => some (some .h35)
  | 2 => some none
  | _ => none

/-- The tier of a code. -/
def tierOf (n : Nat) : Option Tier := unitBy Tier.code [.low, .mid, .high, .bus] n

/-- The edge selection of a code. -/
def edgeOf (n : Nat) : Option EdgeSel := unitBy EdgeSel.code [.rising, .falling, .both, .none] n

/-- The close kind of a code. -/
def closeKindOf (n : Nat) : Option CloseKind := unitBy CloseKind.code [.finish, .stop] n

/-- The credential kind of a code. -/
def credKindOf (n : Nat) : Option CredKind := unitBy CredKind.code [.retail, .fleet, .service] n

/-- The state of a code, ACTIVE or SUSPENDED. -/
def credStateOf (n : Nat) : Option CredState := unitBy CredState.code [.active, .suspended] n

/-- The dispensers of a mask, where it names no other bit. -/
def maskOf (n : Nat) : Option (PerDisp Bool) :=
  if n < 16 then some (.make fun d => n.testBit (d.number - 1)) else none

end Sys2Proof.Machine
end

