-- ==== Sys2Proof/Machine/Money.lean ====
section
/-! DEFINITION. The money band (08, 09): credential entries, the ticket log, the tariff and the batches, as functions of the
records they change. -/

namespace Sys2Proof.Machine

/-! ## The credential table -/

/-- The entry at an index, where it is not EMPTY. -/
def credAt (i : Nat) : List (Nat × Cred) → Option Cred
  | [] => none
  | e :: cs => if e.1 = i then some e.2 else credAt i cs

/-- The table with the entry at an index replaced; the indices stay strictly rising. -/
def credPut (i : Nat) (c : Cred) : List (Nat × Cred) → List (Nat × Cred)
  | [] => [(i, c)]
  | e :: cs => if i < e.1 then (i, c) :: e :: cs else if i = e.1 then (i, c) :: cs else e :: credPut i c cs

/-- The table with the entry at an index EMPTY. -/
def credDrop (i : Nat) (cs : List (Nat × Cred)) : List (Nat × Cred) := cs.filter fun e => e.1 ≠ i

/-- The index of the entry that holds a key (R139). -/
def credByKey (issuer token : Nat) (cs : List (Nat × Cred)) : Option Nat :=
  (cs.find? fun e => e.2.issuer = issuer && e.2.token = token).map fun e => e.1

/-- Whether an entry allows a grade. -/
def Cred.allows (c : Cred) : Grade → Bool
  | .h70 => c.allows70
  | .h35 => c.allows35

/-- Whether an entry has expired on the clock's day (R139). -/
def Cred.expired (c : Cred) (clock : Option Clock) : Bool :=
  match c.expiryDay, clock with
  | some e, some t => decide (e < t.day)
  | _, _ => false

/-- The smaller of a value and one that may be absent. -/
def minOpt (x : Nat) : Option Nat → Nat
  | none => x
  | some y => min x y

/-- The hold formed from an entry (R140). -/
def Cred.holdFor (c : Cred) (preset : Option Nat) : Nat :=
  if c.kind = .service then 0
  else minOpt (minOpt c.remaining.toNat c.amountCap) (preset.map fun x => min x 100000000)

/-- The tests of R139 on an entry that was found: the first that fails, or none. -/
def Cred.refusal (c : Cred) (clock : Option Clock) (g : Grade) (preset : Option Nat) : Option Status :=
  if c.state = .suspended then some .suspended
  else if c.expired clock then some .expired
  else if !c.allows g then some .gradeRefused
  else if c.kind ≠ .service ∧ c.holdFor preset < 100 then some .noAllowance
  else none

/-- The hold taken (R134, R140). -/
def Cred.takeHold (c : Cred) (h : Nat) : Cred :=
  { c with remaining := c.remaining - h, openHolds := c.openHolds + h, openCount := c.openCount + 1 }

/-- A settlement of a hold with the covered amount (R134, R143). -/
def Cred.settle (c : Cred) (h covered : Nat) : Cred :=
  { c with remaining := c.remaining + (h - covered), openHolds := c.openHolds - h, consumed := c.consumed + covered,
           openCount := c.openCount - 1 }

/-! ## The ticket log -/

/-- The numbers of the tickets in the log, open and finalised. -/
def Office.ticketNumbers (o : Office) : List Nat :=
  (o.openTickets.map fun t => t.number) ++ (o.finalised.map fun t => t.base.number)

/-- Whether a place of the ticket log is free (R152). -/
def Office.ticketPlace (o : Office) : Bool := o.openTickets.length + o.finalised.length < Config.ticketPlaces

/-- The number after a number, from 4,294,967,295 to 1 (R153, R157). -/
def nextNumber (n : Nat) : Nat := if 4294967295 ≤ n then 1 else n + 1

/-- A number advanced past every number in use, at most `fuel` times (R153, R157). -/
def pastUsed (used : List Nat) : Nat → Nat → Nat
  | 0, n => n
  | fuel + 1, n => if n ∈ used then pastUsed used fuel (nextNumber n) else n

/-- A ticket opened in the log (R153): the next ticket number advances past every number then in the log. -/
def Office.openTicket (o : Office) (t : Ticket) : Office :=
  let used := t.number :: o.ticketNumbers
  { o with openTickets := o.openTickets ++ [t]
           nextTicket := pastUsed used used.length (nextNumber t.number) }

/-! ## The tariff -/

/-- The price of a grade and price class. -/
def Prices.at (x : Prices) : Nat → Nat
  | 0 => x.p0
  | 1 => x.p1
  | 2 => x.p2
  | _ => x.p3

/-- The price of a period for a grade and price class. -/
def Period.price (x : Period) (g : Grade) (c : Nat) : Nat :=
  match g with
  | .h70 => x.h70.at c
  | .h35 => x.h35.at c

/-- The current period of a table at a minute of the day: the last whose start lies at or below it (R150). -/
def periodAt (m : Nat) : List Period → Option Period
  | [] => none
  | x :: xs =>
    match periodAt m xs with
    | some y => some y
    | none => if x.start ≤ m then some x else none

/-- The current period (R150). -/
def Office.current (o : Office) : Option Period :=
  match o.clock, o.tariff with
  | some t, some xs => periodAt (t.second / 60) xs
  | _, _ => none

/-- The clock one second later (R147). -/
def Clock.advance (t : Clock) : Clock :=
  if t.second < 86399 then { t with second := t.second + 1 }
  else if t.day < 65535 then ⟨t.day + 1, 0⟩ else ⟨0, 0⟩

/-- Whether a clock value is at or after a deadline (07, "Orders"). -/
def Clock.passed (t deadline : Clock) : Bool :=
  deadline.day < t.day || (deadline.day = t.day && deadline.second ≤ t.second)

/-- The clock value that stamps a record. -/
def Office.now (o : Office) : Clock := o.clock.getD ⟨0, 0⟩

/-! ## Batches -/

/-- The BATCH_CLOSED notice of a closed batch (R160). -/
def ClosedBatch.notice (b : ClosedBatch) : Notice :=
  .batchClosed b.batch.number b.batch.account b.cause b.batch.tickets.length b.batch.mass b.batch.amount

/-- The open batches that pass a test closed with a cause, in the order of their opening (R160), and the notices. -/
def Office.closeBatches (o : Office) (cause : CloseCause) (f : Batch → Bool) : Office × List Notice :=
  let closed := (o.openBatches.filter f).map fun b => ⟨b, cause, o.now⟩
  ({ o with openBatches := o.openBatches.filter fun b => !f b, closedBatches := o.closedBatches ++ closed },
   closed.map ClosedBatch.notice)

/-- Whether a batch's grade, period id and price are a ticket's (R159). -/
def Batch.matchesTicket (b : Batch) (t : Ticket) : Bool :=
  b.grade = t.grade && b.periodId = t.periodId && b.price = t.price

/-- A ticket appended to a batch (R159). -/
def Batch.append (b : Batch) (number mass amount : Nat) : Batch :=
  { b with tickets := b.tickets ++ [number], mass := b.mass + mass, amount := b.amount + amount }

/-- Whether a place of the batch log is free (R157). -/
def Office.batchPlace (o : Office) : Bool := o.openBatches.length + o.closedBatches.length < Config.batchPlaces

/-- The numbers of the batches in the log. -/
def Office.batchNumbers (o : Office) : List Nat :=
  (o.openBatches.map fun b => b.number) ++ (o.closedBatches.map fun b => b.batch.number)

/-- A new batch opened with its first ticket (R159). -/
def Office.openBatch (o : Office) (t : Ticket) (account mass amount : Nat) : Office :=
  let n := o.nextBatch
  let used := n :: o.batchNumbers
  { o with
    openBatches := o.openBatches ++
      [⟨n, account, t.grade, t.periodId, t.price, [t.number], mass, amount, o.now, 0, o.batchTimer⟩]
    nextBatch := pastUsed used used.length (nextNumber n) }

/-- What the placing of a ticket answers: the office, the number of the batch that takes the ticket, and the BATCH_CLOSED
notices to raise after the ticket's own. -/
structure Placed where
  office : Office
  batch : Option Nat
  closes : List Notice

/-- The ticket placed in a new batch after the closing of the batches that pass a test, or bypassing batching where no place
is free (R159 steps 2 to 4). -/
def Office.placeNew (o : Office) (t : Ticket) (account mass amount : Nat) (cause : CloseCause) (f : Batch → Bool) :
    Placed :=
  if o.batchPlace then
    let q := o.closeBatches cause f
    ⟨q.1.openBatch t account mass amount, some q.1.nextBatch, q.2⟩
  else ⟨o, none, []⟩

/-- A finalised ticket offered to the Batch Unit and placed (R158, R159). -/
def Office.offer (o : Office) (t : Ticket) (tainted : Bool) (mass amount : Nat) : Placed :=
  match t.account with
  | some a =>
    if t.kind = .fleet ∧ !tainted ∧ 0 < amount then
      match o.openBatches.find? fun b => b.account = a with
      | some b =>
        if !b.matchesTicket t then o.placeNew t a mass amount .mismatch fun x => x.number = b.number
        else if o.batchLimit < b.amount + amount then o.placeNew t a mass amount .full fun x => x.number = b.number
        else
          let grown := b.append t.number mass amount
          let q := { o with openBatches := o.openBatches.map fun x => if x.number = b.number then grown else x }
          if grown.tickets.length < Config.batchTickets then ⟨q, some b.number, []⟩
          else
            let c := q.closeBatches .count fun x => x.number = b.number
            ⟨c.1, some b.number, c.2⟩
      | none =>
        if o.openBatches.length < Config.batchContexts then o.placeNew t a mass amount .evicted fun _ => false
        else
          match o.openBatches with
          | [] => ⟨o, none, []⟩
          | b :: _ => o.placeNew t a mass amount .evicted fun x => x.number = b.number
    else ⟨o, none, []⟩
  | none => ⟨o, none, []⟩

/-! ## The end of a fill -/

/-- The amount, covered and shortfall of a settlement (R143). -/
structure Bill where
  amount : Nat
  covered : Nat
  shortfall : Nat
deriving DecidableEq, Repr

/-- The bill of a verified mass at a price against a hold (R143). -/
def bill (price mass hold : Nat) : Bill :=
  let a := billAmount price mass
  ⟨a, min a hold, a - min a hold⟩

/-- The vehicle-estimated mass of a fill that is COMM (R117). -/
def Session.estimate (x : Session) : Option Nat :=
  if x.comm = some .comm then
    match x.startFrame, x.socFrame with
    | some a, some b => some (gasMass b.pressure b.temperature b.volume - gasMass a.pressure a.temperature a.volume)
    | _, _ => none
  else none

/-- Whether the verified mass differs from the estimate by more than the tolerance (R117). -/
def discrepant (verified : Nat) : Option Nat → Bool
  | none => false
  | some e => e + (e / 5 + 200) < verified || verified + (e / 5 + 200) < e

end Sys2Proof.Machine
end

