-- ==== Sys2Proof/Machine/Ops.lean ====
section
/-! DEFINITION. The named operations over the plant's tables: reading and writing one record, raising a notice, the
predicates the chapters share, and the claims on output points (R165 to R168). -/

namespace Sys2Proof.Machine

/-! ## Timers -/

/-- A timer started at zero. -/
def Timer.start : Timer := ⟨true, 0⟩

/-- A timer stopped, keeping its value. -/
def Timer.stop (t : Timer) : Timer := ⟨false, t.ms⟩

/-- A timer stopped at the value at which it expired. -/
def Timer.stopAt (ms : Nat) : Timer := ⟨false, ms⟩

/-! ## Point records -/

/-- The record of an output point. -/
def Outs.get (o : Outs) : OutPoint → OutRec
  | .inlet d k => (o.inlet.get d).get k
  | .pcv d => o.pcv.get d
  | .prv d => o.prv.get d
  | .hv h => o.hv.get h
  | .compRun c => o.compRun.get c
  | .discharge c k => (o.discharge.get c).get k
  | .stageRun s => o.stageRun.get s

/-- The records with that of one output point replaced. -/
def Outs.set (o : Outs) (p : OutPoint) (r : OutRec) : Outs :=
  match p with
  | .inlet d k => { o with inlet := o.inlet.set d ((o.inlet.get d).set k r) }
  | .pcv d => { o with pcv := o.pcv.set d r }
  | .prv d => { o with prv := o.prv.set d r }
  | .hv h => { o with hv := o.hv.set h r }
  | .compRun c => { o with compRun := o.compRun.set c r }
  | .discharge c k => { o with discharge := o.discharge.set c ((o.discharge.get c).set k r) }
  | .stageRun s => { o with stageRun := o.stageRun.set s r }

/-- Every output record changed by a function of its point and of the record. -/
def Outs.mapId (o : Outs) (f : OutPoint → OutRec → OutRec) : Outs :=
  { inlet := o.inlet.mapId fun d t => t.mapId fun k r => f (.inlet d k) r
    pcv := o.pcv.mapId fun d r => f (.pcv d) r
    prv := o.prv.mapId fun d r => f (.prv d) r
    hv := o.hv.mapId fun h r => f (.hv h) r
    compRun := o.compRun.mapId fun c r => f (.compRun c) r
    discharge := o.discharge.mapId fun c t => t.mapId fun k r => f (.discharge c k) r
    stageRun := o.stageRun.mapId fun s r => f (.stageRun s) r }

/-- The record of a switch or level point. -/
def Switches.get (t : Switches) : SwitchPoint → SwitchRec
  | .esd d => t.esd.get d
  | .gd d => t.gd.get d
  | .hol h => t.hol.get h
  | .cpl h => t.cpl.get h
  | .brk h => t.brk.get h
  | .compFlt c => t.compFlt.get c
  | .stageFlt s => t.stageFlt.get s
  | .fd1 => t.fd1
  | .fd2 => t.fd2
  | .caGd => t.caGd

/-- The records with that of one switch or level point replaced. -/
def Switches.set (t : Switches) (p : SwitchPoint) (r : SwitchRec) : Switches :=
  match p with
  | .esd d => { t with esd := t.esd.set d r }
  | .gd d => { t with gd := t.gd.set d r }
  | .hol h => { t with hol := t.hol.set h r }
  | .cpl h => { t with cpl := t.cpl.set h r }
  | .brk h => { t with brk := t.brk.set h r }
  | .compFlt c => { t with compFlt := t.compFlt.set c r }
  | .stageFlt s => { t with stageFlt := t.stageFlt.set s r }
  | .fd1 => { t with fd1 := r }
  | .fd2 => { t with fd2 := r }
  | .caGd => { t with caGd := r }

/-- Every switch and level record changed by a function of its point and of the record. -/
def Switches.mapId (t : Switches) (f : SwitchPoint → SwitchRec → SwitchRec) : Switches :=
  { esd := t.esd.mapId fun d r => f (.esd d) r
    gd := t.gd.mapId fun d r => f (.gd d) r
    hol := t.hol.mapId fun h r => f (.hol h) r
    cpl := t.cpl.mapId fun h r => f (.cpl h) r
    brk := t.brk.mapId fun h r => f (.brk h) r
    compFlt := t.compFlt.mapId fun c r => f (.compFlt c) r
    stageFlt := t.stageFlt.mapId fun s r => f (.stageFlt s) r
    fd1 := f .fd1 t.fd1
    fd2 := f .fd2 t.fd2
    caGd := f .caGd t.caGd }

/-- The record of an analog point. -/
def Analogs.get (t : Analogs) : AnalogPoint → AnalogRec
  | .tg d => t.tg.get d
  | .pt h => t.pt.get h
  | .bankPt k => t.bankPt.get k
  | .bankTt k => t.bankTt.get k
  | .supPt => t.supPt
  | .ambTt => t.ambTt

/-- The records with that of one analog point replaced. -/
def Analogs.set (t : Analogs) (p : AnalogPoint) (r : AnalogRec) : Analogs :=
  match p with
  | .tg d => { t with tg := t.tg.set d r }
  | .pt h => { t with pt := t.pt.set h r }
  | .bankPt k => { t with bankPt := t.bankPt.set k r }
  | .bankTt k => { t with bankTt := t.bankTt.set k r }
  | .supPt => { t with supPt := r }
  | .ambTt => { t with ambTt := r }

/-- Every analog record changed by a function. -/
def Analogs.mapRec (t : Analogs) (f : AnalogRec → AnalogRec) : Analogs :=
  { tg := t.tg.mapId fun _ r => f r
    pt := t.pt.mapId fun _ r => f r
    bankPt := t.bankPt.mapId fun _ r => f r
    bankTt := t.bankTt.mapId fun _ r => f r
    supPt := f t.supPt
    ambTt := f t.ambTt }

/-! ## Writing one record of the plant -/

/-- A notice joins the notice queue, or is dropped with the notices-lost flag set where 32 wait (R189). -/
def notify (n : Notice) (p : Plant) : Plant :=
  if p.notices.length < Config.noticePlaces then { p with notices := p.notices ++ [n] } else { p with lost := true }

def Plant.setSession (p : Plant) (h : Hose) (x : Session) : Plant := { p with sessions := p.sessions.set h x }
def Plant.setDisp (p : Plant) (d : Disp) (x : DispCtx) : Plant := { p with disps := p.disps.set d x }
def Plant.setOut (p : Plant) (o : OutPoint) (r : OutRec) : Plant := { p with outs := p.outs.set o r }
def Plant.setSwitch (p : Plant) (x : SwitchPoint) (r : SwitchRec) : Plant := { p with switches := p.switches.set x r }
def Plant.setAnalog (p : Plant) (x : AnalogPoint) (r : AnalogRec) : Plant := { p with analogs := p.analogs.set x r }
def Plant.setReceiver (p : Plant) (h : Hose) (r : Receiver) : Plant := { p with receivers := p.receivers.set h r }

/-- The session of a hose changed by a function. -/
def modSession (h : Hose) (f : Session → Session) (p : Plant) : Plant := p.setSession h (f (p.sessions.get h))

/-- The context of a dispenser changed by a function. -/
def modDisp (d : Disp) (f : DispCtx → DispCtx) (p : Plant) : Plant := p.setDisp d (f (p.disps.get d))

/-- The ramp record of a dispenser changed by a function, where there is one. -/
def modRamp (d : Disp) (f : RampRec → RampRec) (p : Plant) : Plant := modDisp d (fun c => { c with ramp := c.ramp.map f }) p

/-- The record of an output changed by a function. -/
def modOut (o : OutPoint) (f : OutRec → OutRec) (p : Plant) : Plant := p.setOut o (f (p.outs.get o))

/-- A function applied to the plant for each dispenser in order. -/
def eachDisp (f : Disp → Plant → Plant) (p : Plant) : Plant := Disp.all.foldl (fun p d => f d p) p

/-- A function applied to the plant for each hose in order. -/
def eachHose (f : Hose → Plant → Plant) (p : Plant) : Plant := Hose.all.foldl (fun p h => f h p) p

/-- A function applied to the plant for each bank in order. -/
def eachBank (f : BankId → Plant → Plant) (p : Plant) : Plant := BankId.all.foldl (fun p k => f k p) p

/-- A function applied to the plant for both compressors in order. -/
def eachComp (f : CompId → Plant → Plant) (p : Plant) : Plant := CompId.all.foldl (fun p c => f c p) p

/-- A function applied to the plant for each stage in order. -/
def eachStage (f : StageId → Plant → Plant) (p : Plant) : Plant := StageId.all.foldl (fun p s => f s p) p

/-! ## What the plant shows -/

/-- A flowing state: PRECHECK, WAIT_PRECOOL, FILLING or ENDING (the terms of the scope file). -/
def SessionState.flowing : SessionState → Bool
  | .precheck | .waitPrecool | .filling | .ending => true
  | _ => false

/-- A state in which a fill may still be ended: a flowing state other than ENDING. -/
def SessionState.running : SessionState → Bool
  | .precheck | .waitPrecool | .filling => true
  | _ => false

/-- Authorised: from its authorisation until it enters SETTLED (R55). -/
def SessionState.authorisedNow : SessionState → Bool
  | .authorised | .queued | .precheck | .waitPrecool | .filling | .ending => true
  | _ => false

/-- Whether a session state is IDLE or SETTLED. -/
def SessionState.atRest : SessionState → Bool
  | .idle | .settled => true
  | _ => false

/-- Whether a hose is fitted (its grade is not ABSENT). -/
def Plant.present (p : Plant) (h : Hose) : Bool := (p.grade.get h).isSome

/-- A dispenser is present when at least one of its hoses is not ABSENT (11). -/
def Plant.dispPresent (p : Plant) (d : Disp) : Bool := p.present d.hoseA || p.present d.hoseB

/-- The state of a hose's session. -/
def Plant.sessState (p : Plant) (h : Hose) : SessionState := (p.sessions.get h).state

/-- The active hose of a dispenser: the hose whose session is in a flowing state (R56). -/
def Plant.activeHose (p : Plant) (d : Disp) : Option Hose :=
  if (p.sessState d.hoseA).flowing then some d.hoseA
  else if (p.sessState d.hoseB).flowing then some d.hoseB
  else none

/-- A dispenser is quiet when every present hose of it is IDLE or SETTLED (11). -/
def Plant.isQuiet (p : Plant) (d : Disp) : Bool :=
  (!p.present d.hoseA || (p.sessState d.hoseA).atRest) && (!p.present d.hoseB || (p.sessState d.hoseB).atRest)

/-- Whether a switch's debounced level is asserted; an UNKNOWN level asserts nothing (R165, R176). DESIGN CHOICE
(assumption 10): a SWITCH is 1 where asserted and 0 where not. -/
def Plant.asserted (p : Plant) (x : SwitchPoint) : Bool :=
  match (p.switches.get x).level with
  | some l => 0 < l
  | none => false

/-- Whether a switch's debounced level is known and not asserted. -/
def Plant.deasserted (p : Plant) (x : SwitchPoint) : Bool := (p.switches.get x).level = some 0

/-- The value of an analog point where it is VALID. -/
def AnalogRec.now (r : AnalogRec) : Option Nat := if r.valid then r.value else none

/-- The latest valid hose pressure sample held, 0 where none has been. -/
def Plant.hoseP (p : Plant) (h : Hose) : Nat := ((p.analogs.pt.get h).value).getD 0

/-- The ambient band of the latest valid AMB.TT sample, or band 6 where AMB.TT is INVALID (R67, R70, R87). -/
def Plant.bandNow (p : Plant) : Nat :=
  match p.analogs.ambTt.now with
  | some t => ambientBand t
  | none => 6

/-- The ramp record of a dispenser, where it describes a running fill. -/
def Plant.runningRamp (p : Plant) (d : Disp) : Option RampRec :=
  match (p.disps.get d).ramp with
  | some r => if r.running then some r else none
  | none => none

/-- A request of the grant list, by its holder. -/
def Plant.requestOf (p : Plant) (w : Requester) : Option Request := p.grants.find? fun r => r.who = w

/-- Whether a holder's request is granted. -/
def Plant.isGranted (p : Plant) (w : Requester) : Bool :=
  match p.requestOf w with
  | some r => r.granted
  | none => false

/-- Whether a dispenser's FILL request is granted (the grant field of the session record). -/
def Plant.fillGranted (p : Plant) (d : Disp) : Bool :=
  match p.requestOf (.disp d) with
  | some r => r.cls = .fill && r.granted
  | none => false

/-- Whether a bank has any isolation cause. -/
def IsoCauses.any (c : IsoCauses) : Bool := c.host || c.overpressure || c.sensor || c.trip

/-- Whether a bank has a drawer. -/
def BankRec.drawn (b : BankRec) : Bool := b.drawers.d1 || b.drawers.d2 || b.drawers.d3 || b.drawers.d4

/-- The number of a bank's drawers. -/
def BankRec.drawerCount (b : BankRec) : Nat :=
  b.drawers.d1.toNat + b.drawers.d2.toNat + b.drawers.d3.toNat + b.drawers.d4.toNat

/-- The state of a bank, from its causes, its filler and its drawers (R15). -/
def BankRec.state (b : BankRec) : BankState :=
  if b.causes.any then .isolated else if b.filler.isSome then .filling else if b.drawn then .drawn else .idle

/-- A bank wants filling when it is IDLE and its pressure is valid and below its refill-start pressure (R28). -/
def BankRec.wantsFilling (b : BankRec) : Bool :=
  b.state = .idle && (match b.pressure with | some q => decide (q < b.refill) | none => false)

/-- SUP.PT is valid and at least 1,500 kPa (R28). -/
def Plant.inletGood (p : Plant) : Bool :=
  match p.analogs.supPt.now with
  | some q => 1500 ≤ q
  | none => false

/-- A running compressor: STARTING, LOADED, UNLOADED or STOPPING (02). -/
def CompState.running : CompState → Bool
  | .starting | .loaded _ | .unloaded | .stopping => true
  | _ => false

/-- A compressor that is STOPPED or LOCKED_OUT (R34). -/
def CompState.atRest : CompState → Bool
  | .stopped | .lockedOut _ => true
  | _ => false

/-- A compressor is in maintenance when it is STOPPED and disabled, or LOCKED_OUT (R32, R167). -/
def CompRec.inMaintenance (c : CompRec) : Bool :=
  match c.state with
  | .stopped => !c.enabled
  | .lockedOut _ => true
  | _ => false

/-- Whether a stage is in FAULT. -/
def StageState.isFault : StageState → Bool
  | .fault _ => true
  | _ => false

/-- A stage is in maintenance in OFF or FAULT (R37, R167). -/
def StageRec.inMaintenance (s : StageRec) : Bool := s.state = .off || s.state.isFault

/-! ## Claims and commands (R166 to R168) -/

/-- The fail-safe value of an output point (R165). -/
def failSafe : OutPoint → OutVal
  | .pcv _ => .setpoint 0
  | _ => .position false

/-- Whether the dispenser of an output is in maintenance: PARKED (R167). -/
def Plant.dispMaint (p : Plant) (d : Disp) : Bool := (p.disps.get d).park = .parked

/-- Whether a bank is in maintenance: ISOLATED (R167). -/
def Plant.bankMaint (p : Plant) (k : BankId) : Bool := (p.banks.get k).causes.any

/-- Whether each unit of an output point is in maintenance (R167, R175). -/
def Plant.unitMaint (p : Plant) : OutPoint → List Bool
  | .inlet d k => [p.dispMaint d, p.bankMaint k]
  | .pcv d => [p.dispMaint d]
  | .prv d => [p.dispMaint d]
  | .hv h => [p.dispMaint h.disp]
  | .compRun c => [(p.comps.get c).inMaintenance]
  | .discharge c k => [(p.comps.get c).inMaintenance, p.bankMaint k]
  | .stageRun s => [(p.stages.get s).inMaintenance]

/-- A point is in maintenance when any of its units is (R167). -/
def Plant.maint (p : Plant) (o : OutPoint) : Bool := (p.unitMaint o).any id

/-- The effective owner of an output by the test of R166. -/
def OutRec.owner (r : OutRec) (maint : Bool) : Owner :=
  if r.safety.isSome then .safety
  else if r.function.isSome then .function
  else if r.manual.isSome && maint then .manual
  else .none

/-- The value of the owner the test of R166 chooses. -/
def OutRec.chosen (r : OutRec) (maint : Bool) (safe : OutVal) : OutVal :=
  match r.safety, r.function, r.manual with
  | some v, _, _ => v
  | none, some v, _ => v
  | none, none, some v => if maint then v else safe
  | none, none, none => safe

/-- A new command (R168): the value is driven, and the readback travels from zero. -/
def OutRec.command (r : OutRec) (v : OutVal) : OutRec :=
  { r with commanded := v, readback := .travelling, travelMs := 0 }

/-- The test of R166 on a record: a new command where it gives a value other than the one in force, and none where it
gives the same. -/
def OutRec.tested (r : OutRec) (maint : Bool) (safe : OutVal) : OutRec :=
  if r.chosen maint safe = r.commanded then r else r.command (r.chosen maint safe)

/-! The claims of R166. A claim is written at once and the test of R166 is made once, by `retestOutputs` as the event
ends: an event that changes a point's claims or its maintenance more than once makes one new command at most, and none
where the value it ends with is the one in force. -/

/-- A FUNCTION claim placed, changed or withdrawn (`none`) on an output (R166). -/
def setFunction (o : OutPoint) (v : Option OutVal) (p : Plant) : Plant :=
  p.setOut o { p.outs.get o with function := v }

/-- A MANUAL claim placed or removed on an output (R166). -/
def setManual (o : OutPoint) (v : Option OutVal) (p : Plant) : Plant :=
  p.setOut o { p.outs.get o with manual := v }

/-- A valve opened or closed under the FUNCTION claim of its owner. -/
def driveValve (o : OutPoint) (isOpen : Bool) (p : Plant) : Plant := setFunction o (some (.position isOpen)) p

/-- The test of R166 made on every output, with the claims and the maintenance an event leaves: once an event
(assumption 6). -/
def retestOutputs (p : Plant) : Plant :=
  { p with outs := p.outs.mapId fun o r => r.tested (p.maint o) (failSafe o) }

/-- SAFETY claims with the fail-safe value on every output (TRIP becoming true, R166). -/
def placeSafety (p : Plant) : Plant :=
  { p with outs := p.outs.mapId fun o r => { r with safety := some (failSafe o) } }

/-- The SAFETY claims removed from every output (TRIP becoming false, R166). -/
def removeSafety (p : Plant) : Plant :=
  { p with outs := p.outs.mapId fun _ r => { r with safety := none } }

/-- Every MANUAL claim removed (RESTART, R166). -/
def removeManual (p : Plant) : Plant :=
  { p with outs := p.outs.mapId fun _ r => { r with manual := none } }

/-- Whether an observed value agrees with the commanded one: the same position, or a setpoint within 200 kPa (R168). -/
def OutVal.agrees : OutVal → OutVal → Bool
  | .position a, .position b => a = b
  | .setpoint a, .setpoint b => decide (a ≤ b + 200) && decide (b ≤ a + 200)
  | _, _ => false

/-- The value the test of R166 gives an output with the claims and the maintenance that stand. -/
def Plant.valueOf (p : Plant) (o : OutPoint) : OutVal := (p.outs.get o).chosen (p.maint o) (failSafe o)

/-- Whether an output is commanded to a value, by this event as by the last, and its readback agrees with it. -/
def Plant.agreesAt (p : Plant) (o : OutPoint) (v : OutVal) : Bool :=
  p.valueOf o = v && (p.outs.get o).commanded = v && (p.outs.get o).readback = .agrees

/-- Whether a valve agrees with open. -/
def Plant.agreesOpen (p : Plant) (o : OutPoint) : Bool := p.agreesAt o (.position true)

/-- Whether a valve agrees with closed. -/
def Plant.agreesClosed (p : Plant) (o : OutPoint) : Bool := p.agreesAt o (.position false)

/-! ## Notices shared by the chapters -/

/-- The SESSION notice of a hose's session as it stands (R83): the end reason in ENDING and SETTLED, and the ticket
number where the session is or was authorised. -/
def noticeSession (h : Hose) (p : Plant) : Plant :=
  let x := p.sessions.get h
  notify (.session h x.state (if x.state = .ending ∨ x.state = .settled then x.endReason else none) x.ticket) p

end Sys2Proof.Machine
end

