-- ==== Sys2Proof/Machine/Supply.lean ====
section
/-! DEFINITION. The bank table and the compressors (02): the cascade, bank requests and releases, isolation, the
compressor's choice of a bank and its states. -/

namespace Sys2Proof.Machine

/-! ## Bank records -/

/-- A bank record written, with BANK_STATE noticed where the state or the causes change (R15), and the renewal of waiting
bank requests asked for (R25). -/
def putBank (k : BankId) (b : BankRec) (p : Plant) : Plant :=
  let old := p.banks.get k
  let q := { p with banks := p.banks.set k b }
  if b.state = old.state ∧ b.causes = old.causes then q
  else { notify (.bankState k b.state b.causes) q with renewDue := true }

/-- A bank record with its usable inventory computed afresh (R14): 0 unless both samples are held valid. -/
def BankRec.reckoned (b : BankRec) : BankRec :=
  { b with inventory :=
      match b.pressure, b.temperature with
      | some q, some t => usableInventory q t b.volume b.floorP
      | _, _ => 0 }

/-- Whether a cause is among those of a bank. -/
def IsoCauses.has (c : IsoCauses) : IsoCause → Bool
  | .host => c.host
  | .overpressure => c.overpressure
  | .sensor => c.sensor
  | .trip => c.trip

/-- The causes with one set or cleared. -/
def IsoCauses.put (c : IsoCauses) (x : IsoCause) (on : Bool) : IsoCauses :=
  match x with
  | .host => { c with host := on }
  | .overpressure => { c with overpressure := on }
  | .sensor => { c with sensor := on }
  | .trip => { c with trip := on }

/-! ## Compressor records -/

/-- Whether Cn.RUN is commanded on in a state (R27). -/
def CompState.runOn : CompState → Bool
  | .starting | .loaded _ | .unloaded => true
  | _ => false

/-- The FUNCTION claims of a compressor on its discharge valves withdrawn. -/
def withdrawDischarge (c : CompId) (p : Plant) : Plant := eachBank (fun k => setFunction (.discharge c k) none) p

/-- A compressor record written, with COMPRESSOR_STATE noticed where the state changes, and Cn.RUN claimed as its state
asks (R27), or every claim of the compressor withdrawn in maintenance (R167). DESIGN CHOICE (assumption 36): LOADED with
another bank is another state, and is noticed. -/
def putComp (c : CompId) (r : CompRec) (p : Plant) : Plant :=
  let old := p.comps.get c
  let q := { p with comps := p.comps.set c r }
  let q := if r.state = old.state then q else notify (.compressorState c r.state) q
  if r.inMaintenance then withdrawDischarge c (setFunction (.compRun c) none q)
  else driveValve (.compRun c) r.state.runOn q

/-- A compressor record that enters a state with its timers at zero. DESIGN CHOICE (assumption 34): at every entry, those
of which no rule says it too. -/
def CompRec.enter (r : CompRec) (st : CompState) : CompRec :=
  { r with state := st, startMs := 0, unloadMs := 0, stoppingMs := 0 }

/-- A compressor enters a state (R27 to R34). -/
def compEnter (c : CompId) (st : CompState) (p : Plant) : Plant := putComp c ((p.comps.get c).enter st) p

/-- Where a compressor's fill ends without a choice: UNLOADED, or STOPPING under a shutdown order of FINISH (R20, R34). -/
def afterFill (c : CompId) (p : Plant) : Plant :=
  compEnter c (if (p.comps.get c).shutdown = .finish then .stopping else .unloaded) p

/-- The discharge valve of a compressor's fill commanded closed, remembered as its previous discharge valve. DESIGN CHOICE
(assumption 38): so too where that valve was never commanded open. -/
def closeDischarge (c : CompId) (k : BankId) (p : Plant) : Plant :=
  let q := driveValve (.discharge c k) false p
  { q with comps := q.comps.set c { q.comps.get c with prev := some k } }

/-- The fill of a LOADED compressor's bank ended, as for a revoked grant (R31): the valve closed, the filler removed. -/
def dropFill (c : CompId) (p : Plant) : Plant :=
  match (p.comps.get c).state with
  | .loaded k =>
    let q := closeDischarge c k p
    putBank k { q.banks.get k with filler := none } q
  | _ => p

/-- A LOADED compressor whose grant is revoked, whose inlet falls low or that HOLD reaches (R31). -/
def endLoad (c : CompId) (p : Plant) : Plant :=
  match (p.comps.get c).state with
  | .loaded _ => afterFill c (dropFill c p)
  | _ => p

/-- The conditions under which a running compressor may choose a bank (R29, R31). -/
def Plant.mayLoad (p : Plant) (c : CompId) : Bool :=
  p.isGranted (.comp c) && !p.hold && !p.trip && p.inletGood && (p.comps.get c).shutdown = .none

/-- The first of a list whose key is least. -/
def leastBy (key : BankId → Nat) : List BankId → Option BankId
  | [] => none
  | k :: ks =>
    match leastBy key ks with
    | none => some k
    | some j => if key j < key k then some j else some k

/-- The sum of the usable inventories of the BUS banks, in every state (R30). -/
def Plant.busInventory (p : Plant) : Nat :=
  ((BankId.all.filter fun k => (p.banks.get k).tier = .bus).map fun k => (p.banks.get k).inventory).sum

/-- The tier order of a compressor's choice (R30). -/
def Plant.fillOrder (p : Plant) : List Tier :=
  if p.busInventory < p.windowDemand then [.bus, .high, .mid, .low] else [.high, .bus, .mid, .low]

/-- The bank a compressor chooses (R30). -/
def Plant.chooseBank (p : Plant) : Option BankId :=
  p.fillOrder.findSome? fun t =>
    leastBy (fun k => (p.banks.get k).pressure.getD 0 * 1000 / (p.banks.get k).maxP)
      (BankId.all.filter fun k => (p.banks.get k).wantsFilling && (p.banks.get k).tier = t)

/-- A compressor enters LOADED with a bank, which gains it as its filler (R30). -/
def loadBank (c : CompId) (k : BankId) (p : Plant) : Plant :=
  compEnter c (.loaded k) (putBank k { p.banks.get k with filler := some c } p)

/-- A compressor that chooses enters LOADED where the conditions hold and a bank wants filling, and otherwise enters
`other` (R29, R31). -/
def chooseOr (c : CompId) (other : CompState) (p : Plant) : Plant :=
  if p.mayLoad c then
    match p.chooseBank with
    | some k => loadBank c k p
    | none => compEnter c other p
  else compEnter c other p

/-- The expiry of a start timer (R29, R34). -/
def startDone (c : CompId) (p : Plant) : Plant :=
  if (p.comps.get c).shutdown = .finish then compEnter c .stopping p else chooseOr c .unloaded p

/-- A LOADED compressor's bank is full (R31): the compressor chooses again, or enters STOPPING under FINISH (R34). -/
def bankFull (c : CompId) (p : Plant) : Plant :=
  let q := dropFill c p
  if (p.comps.get c).shutdown = .finish then compEnter c .stopping q else chooseOr c .unloaded q

/-- An UNLOADED compressor that may load chooses (R31). -/
def unloadedChooses (c : CompId) (p : Plant) : Plant :=
  if (p.comps.get c).state = .unloaded then
    if p.mayLoad c then
      match p.chooseBank with
      | some k => loadBank c k p
      | none => p
    else p
  else p

/-- A STOPPED compressor is ready to start (R28). -/
def Plant.readyToStart (p : Plant) (c : CompId) : Bool :=
  (p.comps.get c).state = .stopped && (p.comps.get c).enabled && !p.asserted (.compFlt c) && p.mode ≠ .closed
    && !p.hold && !p.trip && (p.comps.get c).shutdown = .none && p.inletGood
    && BankId.all.any fun k => (p.banks.get k).wantsFilling

/-- Whether the previous discharge valve of a compressor still holds up a new one: commanded closed, and its readback
not agreeing (R31). -/
def Plant.dischargeHeld (p : Plant) (c : CompId) : Bool :=
  match (p.comps.get c).prev with
  | none => false
  | some j => p.valueOf (.discharge c j) = .position false && !p.agreesClosed (.discharge c j)

/-- The discharge valve of a LOADED compressor commanded open, as soon as the previous valve allows it (R31). -/
def openDischarge (c : CompId) (p : Plant) : Plant :=
  match (p.comps.get c).state with
  | .loaded k =>
    if (p.outs.get (.discharge c k)).function = some (.position true) then p
    else if p.dischargeHeld c then p
    else
      let q := driveValve (.discharge c k) true p
      { q with comps := q.comps.set c { q.comps.get c with prev := none } }
  | _ => p

/-! ## The cascade -/

/-- The tier order of a hose grade (02). -/
def tierOrder : Grade → List Tier
  | .h70 => [.low, .mid, .high]
  | .h35 => [.bus, .low, .mid]

/-- The place of a tier in an order. -/
def tierPlace (order : List Tier) (t : Tier) : Nat := order.findIdx fun x => x = t

/-- Whether a bank is eligible for a hose of a dispenser (R18). -/
def Plant.eligible (p : Plant) (d : Disp) (g : Grade) (hoseP : Nat) (k : BankId) : Bool :=
  let b := p.banks.get k
  (tierOrder g).any (fun t => t = b.tier) && !b.causes.any
    && (match b.pressure with | some q => decide (hoseP + 3000 ≤ q) | none => false)
    && (b.drawerCount < 2 || b.drawers.get d)

/-- The rank of an eligible bank (R19). -/
def Plant.bankRank (p : Plant) (g : Grade) (start : Tier) (k : BankId) : Nat :=
  let b := p.banks.get k
  if b.state = .filling then 3
  else if tierPlace (tierOrder g) start ≤ tierPlace (tierOrder g) b.tier then 1 else 2

/-- Whether one bank stands before another in the ranking by rank, tier order and higher pressure (R19). -/
def Plant.ranksBefore (p : Plant) (g : Grade) (start : Tier) (j k : BankId) : Bool :=
  let place := fun b => tierPlace (tierOrder g) (p.banks.get b).tier
  let press := fun b => ((p.banks.get b).pressure).getD 0
  p.bankRank g start j < p.bankRank g start k
    || (p.bankRank g start j = p.bankRank g start k
      && (place j < place k || (place j = place k && press k < press j)))

/-- The first bank of a list in the ranking, the lower number where two rank alike. -/
def Plant.firstRanked (p : Plant) (g : Grade) (start : Tier) : List BankId → Option BankId
  | [] => none
  | k :: ks =>
    match p.firstRanked g start ks with
    | none => some k
    | some j => if p.ranksBefore g start j k then some j else some k

/-- The answer to a bank request (R19). -/
def Plant.bankAnswer (p : Plant) (d : Disp) (g : Grade) (hoseP : Nat) (start : Tier) : Option BankId :=
  p.firstRanked g start (BankId.all.filter fun k => p.eligible d g hoseP k)

/-- The first tier of a grade's order. -/
def firstTier : Grade → Tier
  | .h70 => .low
  | .h35 => .bus

/-- A granted bank gains the dispenser as a drawer; a FILLING bank is pre-empted (R19, R20). -/
def takeBank (d : Disp) (k : BankId) (p : Plant) : Plant :=
  let b := p.banks.get k
  match b.filler with
  | none => putBank k { b with drawers := b.drawers.set d true } p
  | some c => afterFill c (closeDischarge c k (putBank k { b with filler := none, drawers := b.drawers.set d true } p))

/-- A dispenser removed from the drawers of a bank (R22). -/
def dropDrawer (d : Disp) (k : BankId) (p : Plant) : Plant :=
  putBank k { p.banks.get k with drawers := (p.banks.get k).drawers.set d false } p

/-! ## Isolation -/

/-- An isolation cause added to a bank, as far as the bank and its filler go (R16): the first cause empties the bank, its
discharge valves are closed by the withdrawal of their claims, and its filler acts as R31 states. -/
def isolateCore (k : BankId) (x : IsoCause) (p : Plant) : Plant :=
  let b := p.banks.get k
  if b.causes.any then putBank k { b with causes := b.causes.put x true } p
  else
    let q := putBank k
      { b with causes := b.causes.put x true, drawers := .make fun _ => false, filler := none } p
    let q := match b.filler with
      | none => q
      | some c => afterFill c (closeDischarge c k q)
    eachComp (fun c => setFunction (.discharge c k) none) q

/-- An isolation cause removed from a bank (R17); with the last, the bank enters IDLE. -/
def removeCause (k : BankId) (x : IsoCause) (p : Plant) : Plant :=
  putBank k { p.banks.get k with causes := (p.banks.get k).causes.put x false } p

end Sys2Proof.Machine
end

