-- ==== Sys2Proof/Machine/Precool.lean ====
section
/-! DEFINITION. The chiller stages, the grant list, arming and the precool classes (03), and what the compressors do with
their requests (R28, R32 to R34). -/

namespace Sys2Proof.Machine

/-! ## Stages -/

/-- Whether Sn.RUN is commanded on in a state: in STARTING and RUNNING. -/
def StageState.runOn : StageState → Bool
  | .starting | .running => true
  | _ => false

/-- A stage record written, with STAGE_STATE noticed where the state changes, and Sn.RUN claimed on in STARTING and
RUNNING and its claim withdrawn in OFF and FAULT (R37, R38, R167). -/
def putStage (s : StageId) (r : StageRec) (p : Plant) : Plant :=
  let old := p.stages.get s
  let q := { p with stages := p.stages.set s r }
  let q := if r.state = old.state then q else notify (.stageState s r.state) q
  setFunction (.stageRun s) (if r.state.runOn then some (.position true) else none) q

/-- A stage enters OFF, with its start timer zeroed and its off timer at zero (R37). -/
def stageOff (s : StageId) (p : Plant) : Plant := putStage s ⟨.off, 0, 0⟩ p

/-- A stage is available to start (R37). -/
def Plant.stageAvailable (p : Plant) (s : StageId) : Bool :=
  (p.stages.get s).state = .off && 60000 ≤ (p.stages.get s).offMs && !p.asserted (.stageFlt s)

/-- The number of stages whose state passes a test. -/
def Plant.countStages (p : Plant) (f : StageState → Bool) : Nat :=
  (StageId.all.filter fun s => f (p.stages.get s).state).length

/-- The number of RUNNING stages. -/
def Plant.runningStages (p : Plant) : Nat := p.countStages fun x => x = .running

/-- The capacity of the loop (R40). -/
def Plant.capacity (p : Plant) : Nat := stageCapacity p.band * p.runningStages

/-- The stage capacity times the number of stages in RUNNING or STARTING (R51, R52). -/
def Plant.comingCapacity (p : Plant) : Nat := stageCapacity p.band * p.countStages StageState.runOn

/-- The sum of the demands of the requests that pass a test. -/
def demandSum (f : Request → Bool) (rs : List Request) : Nat := ((rs.filter f).map fun r => r.demand).sum

/-! ## The grant list -/

/-- The walk of the list from its head with the capacity that remains (R42). -/
def walk : Nat → List Request → List Request
  | _, [] => []
  | room, r :: rs =>
    if r.demand ≤ room then { r with granted := true } :: walk (room - r.demand) rs
    else { r with granted := false } :: walk room rs

/-- The grant list evaluated against the capacity (R42). -/
def evaluate (p : Plant) : Plant := { p with grants := walk p.capacity p.grants }

/-- The place of a class in the list (R41). -/
def RequestClass.place : RequestClass → Nat
  | .fill => 0
  | .compressor => 1
  | .standby => 2

/-- A request joins its class after every request of that class already present (R41). -/
def insertRequest (r : Request) (rs : List Request) : List Request :=
  rs.filter (fun x => x.cls.place ≤ r.cls.place) ++ [r] ++ rs.filter (fun x => r.cls.place < x.cls.place)

/-- The list without the request of a holder. -/
def dropRequest (w : Requester) (rs : List Request) : List Request := rs.filter fun x => x.who ≠ w

/-- A request filed, in place of any the holder has, with the evaluation of R42. -/
def file (w : Requester) (cls : RequestClass) (demand : Nat) (p : Plant) : Plant :=
  evaluate { p with grants := insertRequest ⟨w, cls, demand, false⟩ (dropRequest w p.grants) }

/-- The request of a holder released, with the evaluation of R42; nothing where it has none. -/
def release (w : Requester) (p : Plant) : Plant :=
  match p.requestOf w with
  | none => p
  | some _ => evaluate { p with grants := dropRequest w p.grants }

/-! ## Arming -/

/-- Whether a dispenser is armed (R46). -/
def Plant.armed (p : Plant) (d : Disp) : Bool :=
  (p.disps.get d).park ≠ .parked
    && (p.sessState d.hoseA ≠ .idle || p.sessState d.hoseB ≠ .idle || (p.armT.get d).isSome || (p.keepT.get d).isSome
      || ((p.disps.get d).depotMode && p.reports.get d))

/-- The STANDBY request of a dispenser filed or released as it is armed or not (R46). -/
def arming (d : Disp) (p : Plant) : Plant :=
  match p.requestOf (.disp d) with
  | none => if p.armed d then file (.disp d) .standby 3 p else p
  | some r => if r.cls = .standby && !p.armed d then release (.disp d) p else p

/-- The FILL request of a dispenser released; where the dispenser is armed, a STANDBY request joins the tail, as one
change of the list (R41). -/
def releaseFill (d : Disp) (p : Plant) : Plant :=
  match p.requestOf (.disp d) with
  | some r =>
    if r.cls = .fill then if p.armed d then file (.disp d) .standby 3 p else release (.disp d) p else p
  | none => p

/-- Both intervals of a dispenser stopped, at its entry to PARKING or PARKED (R47). -/
def stopIntervals (d : Disp) (p : Plant) : Plant :=
  { p with armT := p.armT.set d none, keepT := p.keepT.set d none }

/-! ## Starting and stopping stages -/

/-- The start decision, for one stage (R51). DESIGN CHOICE (assumption 34): the off timer is 0 from the entry to STARTING. -/
def startOne (p : Plant) : Plant :=
  if p.comingCapacity < demandSum (fun _ => true) p.grants && p.mode ≠ .closed && !p.trip then
    match StageId.all.find? fun s => p.stageAvailable s with
    | some s => putStage s ⟨.starting, 0, 0⟩ p
    | none => p
  else p

/-- The start decision, made again until no further stage starts (R51). -/
def startDecision (p : Plant) : Plant := startOne (startOne (startOne p))

/-- Whether both conditions of the stop timer hold with a stage RUNNING (R52). -/
def Plant.stopTimerRuns (p : Plant) : Bool :=
  0 < p.runningStages
    && demandSum (fun r => r.granted) p.grants + stageCapacity p.band ≤ p.capacity
    && demandSum (fun _ => true) p.grants ≤ p.comingCapacity

/-- The stop timer started, kept running or cleared, as its conditions stand (R52). -/
def settleStopTimer (p : Plant) : Plant :=
  if p.stopTimerRuns then (if p.stopT.running then p else { p with stopT := .start }) else { p with stopT := .zero }

/-- The expiry of the stop timer (R52): the highest-numbered RUNNING stage enters OFF. -/
def stopStage (p : Plant) : Plant :=
  match StageId.all.reverse.find? fun s => (p.stages.get s).state = .running with
  | some s => evaluate { stageOff s p with stopT := .zero }
  | none => { p with stopT := .zero }

/-- A stage enters FAULT (R38); a stage already in FAULT keeps its cause. -/
def faultStage (s : StageId) (x : FaultCause) (p : Plant) : Plant :=
  if (p.stages.get s).state.isFault then p
  else evaluate (putStage s { p.stages.get s with state := .fault x, startMs := 0 } p)

/-- A change of the chiller ambient band, with the evaluation of R39. -/
def setBand (b : Nat) (p : Plant) : Plant :=
  if p.band = b then { p with candidate := none } else evaluate { p with band := b, candidate := none }

/-- The candidate band at a valid AMB.TT sample (R39). -/
def bandSample (dK : Nat) (p : Plant) : Plant :=
  let b := ambientBand dK
  if b = p.band then { p with candidate := none }
  else match p.candidate with
    | some (c, _) => if c = b then p else { p with candidate := some (b, 0) }
    | none => { p with candidate := some (b, 0) }

/-! ## Precool valves -/

/-- The FUNCTION claim on Dn.PRV, as the dispenser's request stands (R45). -/
def claimPrv (d : Disp) (p : Plant) : Plant :=
  setFunction (.prv d) ((p.requestOf (.disp d)).map fun r => .position r.granted) p

/-! ## Compressors and their requests -/

/-- A compressor ends what it does and enters a state at rest, releasing its request (R32 to R35). -/
def compRest (c : CompId) (st : CompState) (p : Plant) : Plant :=
  release (.comp c) (compEnter c st (dropFill c p))

/-- A compressor enters LOCKED_OUT (R33): from a running state, or from STOPPED by a VALVE_FAULT; a compressor already
locked out keeps its cause. -/
def lockOut (c : CompId) (x : FaultCause) (p : Plant) : Plant :=
  if (p.comps.get c).state.running || ((p.comps.get c).state = .stopped && x = .valveFault) then
    compRest c (.lockedOut x) p
  else p

/-- A running compressor other than one in STOPPING enters STOPPING (R32, R34). DESIGN CHOICE (assumption 41): a LOADED
one goes from LOADED to STOPPING, with no entry to UNLOADED between. -/
def compStopping (c : CompId) (p : Plant) : Plant :=
  match (p.comps.get c).state with
  | .starting | .loaded _ | .unloaded => compEnter c .stopping (dropFill c p)
  | _ => p

/-- A STOPPED compressor files, starts or releases as it stands (R28). -/
def stoppedComp (c : CompId) (p : Plant) : Plant :=
  if p.readyToStart c then
    let q := if (p.requestOf (.comp c)).isSome then p else file (.comp c) .compressor 6 p
    if q.isGranted (.comp c) then compEnter c .starting q else q
  else release (.comp c) p

/-- What a compressor does with the conditions that hold at an event (R28, R31, R44). -/
def compActs (c : CompId) (p : Plant) : Plant :=
  match (p.comps.get c).state with
  | .stopped => stoppedComp c p
  | .loaded _ => if !p.isGranted (.comp c) || p.hold || !p.inletGood then unloadedChooses c (endLoad c p) else p
  | .unloaded => unloadedChooses c p
  | _ => p

/-- A shutdown order reaches a compressor (R34). -/
def giveOrder (c : CompId) (k : CloseKind) (p : Plant) : Plant :=
  match k with
  | .stop => compStopping c { p with comps := p.comps.set c { p.comps.get c with shutdown := .stop } }
  | .finish =>
    let q := { p with comps := p.comps.set c { p.comps.get c with shutdown := .finish } }
    if (q.comps.get c).state = .unloaded then compEnter c .stopping q else q

/-- DISABLE (R32). -/
def disableComp (c : CompId) (p : Plant) : Plant :=
  let q := compStopping c { p with comps := p.comps.set c { p.comps.get c with enabled := false } }
  if (q.comps.get c).state = .stopped then release (.comp c) (putComp c (q.comps.get c) q) else q

/-- ENABLE (R27). -/
def enableComp (c : CompId) (p : Plant) : Plant := putComp c { p.comps.get c with enabled := true } p

end Sys2Proof.Machine
end

