-- ==== Sys2Proof/Machine/Ramp.lean ====
section
/-! DEFINITION. The Ramp Unit (05): the ramp target, the pause causes, the rate change and the corridor, as far as they
change the ramp record and the pressure-control valve. -/

namespace Sys2Proof.Machine

/-! ## Pause causes -/

/-- The pause timer of a cause, where it is present. -/
def Pauses.get (x : Pauses) : PauseCause → Option Nat
  | .hold => x.hold
  | .vehicleHalt => x.vehicleHalt
  | .supply => x.supply
  | .bankSwitch => x.bankSwitch
  | .corridorHigh => x.corridorHigh

/-- The set with a cause put in with its timer, or taken out. -/
def Pauses.put (x : Pauses) (c : PauseCause) (t : Option Nat) : Pauses :=
  match c with
  | .hold => { x with hold := t }
  | .vehicleHalt => { x with vehicleHalt := t }
  | .supply => { x with supply := t }
  | .bankSwitch => { x with bankSwitch := t }
  | .corridorHigh => { x with corridorHigh := t }

/-- Whether the set holds no cause. -/
def Pauses.isEmpty (x : Pauses) : Bool :=
  x.hold.isNone && x.vehicleHalt.isNone && x.supply.isNone && x.bankSwitch.isNone && x.corridorHigh.isNone

/-- The set that holds no cause. -/
def Pauses.empty : Pauses := ⟨none, none, none, none, none⟩

/-- The limit of a pause in ms and the reason it ends a fill with (R95); BANK_SWITCH has none of its own. -/
def pauseLimit : PauseCause → Option (Nat × EndReason)
  | .hold => some (120000, .stationHold)
  | .vehicleHalt => some (30000, .vehicleHalt)
  | .supply => some (90000, .supplyExhausted)
  | .corridorHigh => some (10000, .corridorHigh)
  | .bankSwitch => none

/-! ## The ramp record -/

/-- The ramp target (R90). -/
def RampRec.aim (r : RampRec) : Nat := min r.endP (r.anchor + r.rate * r.clockMs / 1000)

/-- The record with its target computed and recorded (R90). -/
def RampRec.aimed (r : RampRec) : RampRec := { r with target := r.aim }

/-- Whether the ramp clock runs (R90). -/
def RampRec.clockRuns (r : RampRec) : Bool := r.pauses.isEmpty && !r.lowHold

/-- A cause added (R94): the target is computed, the first cause turns corridor-low hold off, and the cause's timer starts
at zero. -/
def RampRec.addPause (r : RampRec) (c : PauseCause) : RampRec :=
  if (r.pauses.get c).isSome then r
  else
    let q := r.aimed
    { q with pauses := q.pauses.put c (some 0), lowHold := if q.pauses.isEmpty then false else q.lowHold }

/-- A cause removed (R94): the target is computed, and the cause's timer is cleared. -/
def RampRec.removePause (r : RampRec) (c : PauseCause) : RampRec :=
  if (r.pauses.get c).isNone then r
  else
    let q := r.aimed
    { q with pauses := q.pauses.put c none }

/-- The rate change of R91 with a new class or comm mode, and whether it met a table rate of zero. -/
def RampRec.rateChange (r : RampRec) (g : Grade) (cls : PrecoolClass) (m : CommMode) : RampRec × Bool :=
  let e := if m = r.comm then r.endP else endPressure m g r.band
  let t := rateEntry g r.band cls
  let q := { r.aimed with cls := cls, comm := m, endP := e, tableRate := t }
  if t = 0 then (q, true)
  else ({ q with rate := effectiveRate t r.derate m, anchor := min q.target e, clockMs := 0,
                 target := min q.target e }, false)

/-- The corridor at a hose pressure sample (R96, R97): CORRIDOR_HIGH added or removed against the target just computed,
and corridor-low hold tested where the set was empty before and is after. -/
def RampRec.corridor (r : RampRec) (hoseP : Nat) : RampRec :=
  let q := r.aimed
  let q := if q.target + q.corrUp < hoseP then q.addPause .corridorHigh else q.removePause .corridorHigh
  if r.pauses.isEmpty && q.pauses.isEmpty then { q with lowHold := decide (hoseP + q.corrLow < q.target) } else q

/-- The reasons a hose pressure sample meets against an end pressure (R98, R99). -/
def pressureReasons (endP hoseP : Nat) : List EndReason :=
  reasonIf (endP + 2000 < hoseP) .overpressure ++ reasonIf (endP ≤ hoseP) .targetPressure

/-! ## The plant's side -/

/-- The FUNCTION claim on Dn.PCV given a setpoint. -/
def drivePcv (d : Disp) (kPa : Nat) (p : Plant) : Plant := setFunction (.pcv d) (some (.setpoint kPa)) p

/-- The ramp record of a dispenser replaced. -/
def putRamp (d : Disp) (r : RampRec) (p : Plant) : Plant := modDisp d (fun c => { c with ramp := some r }) p

/-- A pause cause added to a running fill (R94), with Dn.PCV commanded to 0 (R93) and the switch timer cleared (R23). -/
def addPause (d : Disp) (c : PauseCause) (p : Plant) : Plant :=
  match p.runningRamp d with
  | none => p
  | some r =>
    if (r.pauses.get c).isSome then p
    else
      let q := modDisp d (fun x => { x with switchT := .zero }) (putRamp d (r.addPause c) p)
      if r.pauses.isEmpty then drivePcv d 0 q else q

/-- A pause cause removed from a running fill (R94). -/
def removePause (d : Disp) (c : PauseCause) (p : Plant) : Plant :=
  match p.runningRamp d with
  | none => p
  | some r => putRamp d (r.removePause c) p

/-- The ramp record filled at entry to FILLING (R86), before its tests. -/
def newRamp (p : Plant) (h : Hose) (g : Grade) : RampRec :=
  let x := p.sessions.get h
  let m := x.comm.getD .noncomm
  let cls := p.measured.get h.disp
  let t := rateEntry g p.bandNow cls
  let anchor := x.initialP.getD 0
  let endP := endPressure m g p.bandNow
  { hose := h
    band := p.bandNow
    cls := cls
    comm := m
    tableRate := t
    rate := effectiveRate t (p.derate.get h) m
    endP := endP
    anchor := anchor
    clockMs := 0
    target := min endP anchor
    derate := p.derate.get h
    corrUp := p.cfg.corrUp
    corrLow := p.cfg.corrLow
    limitS := (match g with | .h70 => p.cfg.limit70 | .h35 => p.cfg.limit35)
    pauses :=
      { hold := if p.hold then some 0 else none
        vehicleHalt := none
        supply := if x.bank.isNone then some 0 else none
        bankSwitch := (match x.bank with
          | some k => if p.agreesOpen (.inlet h.disp k) then none else some 0
          | none => none)
        corridorHigh := none }
    lowHold := false
    lowMs := 0
    fillMs := 0
    running := true }

end Sys2Proof.Machine
end

