-- ==== Sys2Proof/Machine/Session.lean ====
section
/-! DEFINITION. The fill session (04) as far as the plant goes: waiting and handover, precheck, bank switches (R22 to
R26), waiting for precool, filling and the end of a fill. What touches money stands in Settlement.lean. -/

namespace Sys2Proof.Machine

/-! ## Waiting (R61) -/

/-- Whether a hose of a dispenser is in a flowing state. -/
def Plant.dispFlowing (p : Plant) (d : Disp) : Bool := (p.activeHose d).isSome

/-- The start conditions of a dispenser's hoses (R61). -/
def Plant.startConditions (p : Plant) (d : Disp) : Bool :=
  p.mode = .opened && !p.hold && !p.trip && (p.disps.get d).park = .active && !p.dispFlowing d

/-- The wait reason of the first failing condition (R61); a station mode other than OPEN and TRIP name none. -/
def Plant.waitReason (p : Plant) (h : Hose) : Option WaitReason :=
  if (p.sessState h.other).flowing then some .otherHose
  else if (p.disps.get h.disp).park ≠ .active then some .parked
  else if p.hold then some .hold
  else none

/-- A QUEUED hose leaves QUEUED: the other hose, where it is queued, is first (R61). -/
def leaveQueue (h : Hose) (p : Plant) : Plant :=
  modSession h.other (fun x => if x.state = .queued then { x with queuePos := some .first } else x) p

/-- An authorised, coupled hose enters QUEUED (R61). -/
def enterQueue (h : Hose) (p : Plant) : Plant :=
  let pos := if p.sessState h.other = .queued then QueuePos.second else QueuePos.first
  modSession h (fun x => { x with state := .queued, wait := p.waitReason h, queuePos := some pos,
                                  coupling := x.coupling.stop }) p

/-! ## The end of a fill (R72) -/

/-- Dn.PCV commanded to 0, and the hose valve and every inlet valve of the dispenser commanded closed. -/
def shutValves (h : Hose) (p : Plant) : Plant :=
  eachBank (fun k => driveValve (.inlet h.disp k) false) (driveValve (.hv h) false (drivePcv h.disp 0 p))

/-- The claims of an active hose withdrawn as it leaves ENDING (R56, R73). -/
def withdrawValves (h : Hose) (p : Plant) : Plant :=
  eachBank (fun k => setFunction (.inlet h.disp k) none) (setFunction (.hv h) none (setFunction (.pcv h.disp) none p))

/-- The bank of a session released (R22): the drawer removed and the inlet valve commanded closed. -/
def releaseBank (h : Hose) (p : Plant) : Plant :=
  match (p.sessions.get h).bank with
  | none => p
  | some k =>
    dropDrawer h.disp k (driveValve (.inlet h.disp k) false (modSession h (fun x => { x with bank := none }) p))

/-- A fill ends (R72, R85): nothing where the session is not in PRECHECK, WAIT_PRECOOL or FILLING (R103). -/
def endFill (h : Hose) (r : EndReason) (p : Plant) : Plant :=
  let x := p.sessions.get h
  if x.state.running then
    let d := h.disp
    let cls := if x.state = .filling then (p.disps.get d).ramp.map fun q => q.cls else none
    let p := modSession h (fun x =>
      { x with state := .ending, endReason := some r, finalP := (p.analogs.pt.get h).value, classEnd := cls
               supplyWait := x.supplyWait.stop, pulse := x.pulse.stop, settle := x.settle.stop
               precoolWait := x.precoolWait.stop, afterflow := .start, pulseStep := none, oldInlet := none }) p
    let p := noticeSession h p
    let p := shutValves h p
    let p := releaseBank h p
    let p := releaseFill d p
    let p := modDisp d (fun c =>
      { c with zeroCount := 0, switchT := .zero, ramp := c.ramp.map fun q => { q with running := false } }) p
    { p with classSettle := p.classSettle.set d .zero, classStep := p.classStep.set d .zero }
  else p

/-- A fill ends with the first of the reasons an event meets (R104, R105), or goes on where it meets none. -/
def endFor (h : Hose) (rs : List EndReason) (p : Plant) : Plant :=
  match firstReason rs with
  | some r => endFill h r p
  | none => p

/-! ## Bank requests -/

/-- A bank request of a hose's session with a starting tier (R19); a granted bank is held by the session. -/
def requestBank (h : Hose) (start : Tier) (p : Plant) : Plant :=
  match p.grade.get h with
  | none => p
  | some g =>
    match p.bankAnswer h.disp g (p.hoseP h) start with
    | none => p
    | some k => modSession h (fun x => { x with bank := some k }) (takeBank h.disp k p)

/-- The first tier of a hose's cascade. -/
def Plant.firstTierOf (p : Plant) (h : Hose) : Tier := firstTier ((p.grade.get h).getD .h70)

/-- A bank request with the first tier. -/
def requestFirst (h : Hose) (p : Plant) : Plant := requestBank h (p.firstTierOf h) p

/-- A session in PRECHECK follows its bank request (R65, R66 step 1): the pulse begins with the bank's valves, or the
supply wait timer starts. -/
def precheckBank (h : Hose) (p : Plant) : Plant :=
  match (p.sessions.get h).bank with
  | some _ =>
    driveValve (.hv h) true (modSession h (fun x => { x with supplyWait := .zero, pulseStep := some .valves }) p)
  | none => modSession h (fun x => { x with supplyWait := .start }) p

/-- The pulse of a session in PRECHECK stopped and cleared (R69): Dn.PCV commanded to 0, the timers zeroed, Pa discarded. -/
def clearPulse (h : Hose) (p : Plant) : Plant :=
  drivePcv h.disp 0 (modSession h (fun x =>
    { x with pulse := .zero, settle := .zero, pa := none
             pulseStep := if x.bank.isSome then some .valves else none }) p)

/-- A bank switch of a FILLING fill begins (R24) from the bank it holds, which is released unless it was lost. -/
def beginSwitch (h : Hose) (k : BankId) (lost : Bool) (p : Plant) : Plant :=
  let d := h.disp
  let p := addPause d .bankSwitch p
  let p := modSession h (fun x => { x with bank := none, oldInlet := some k }) p
  let p := if lost then p else dropDrawer d k p
  let p := driveValve (.inlet d k) false p
  let p := modDisp d (fun c => { c with switchT := .zero }) p
  let p := requestBank h (p.banks.get k).tier p
  if (p.sessions.get h).bank.isSome then p else addPause d .supply p

/-- A dispenser told that a bank it drew from is lost (R16, R24, R26). -/
def loseBank (d : Disp) (k : BankId) (p : Plant) : Plant :=
  match p.activeHose d with
  | none => p
  | some h =>
    if (p.sessions.get h).bank = some k then
      match p.sessState h with
      | .precheck =>
        let p := clearPulse h (modSession h (fun x => { x with bank := none }) (driveValve (.inlet d k) false p))
        precheckBank h (requestFirst h p)
      | .waitPrecool =>
        requestFirst h (modSession h (fun x => { x with bank := none }) (driveValve (.inlet d k) false p))
      | .filling => beginSwitch h k true p
      | _ => p
    else p

/-- An isolation cause added to a bank (R16), with its drawers told. -/
def isolate (k : BankId) (x : IsoCause) (p : Plant) : Plant :=
  if (p.banks.get k).causes.has x then p
  else
    let before := (p.banks.get k).drawers
    eachDisp (fun d q => if before.get d then loseBank d k q else q) (isolateCore k x p)

/-- An isolation cause taken from a bank, where it has it (R17). -/
def unisolate (k : BankId) (x : IsoCause) (p : Plant) : Plant :=
  if (p.banks.get k).causes.has x then removeCause k x p else p

/-- The bank request of a session that holds no bank renewed (R25, R26). -/
def renew (h : Hose) (p : Plant) : Plant :=
  let x := p.sessions.get h
  if x.state.running && x.bank.isNone then
    let q := requestFirst h p
    if (q.sessions.get h).bank.isSome then
      match x.state with
      | .precheck => precheckBank h q
      | .filling => removePause h.disp .supply (addPause h.disp .bankSwitch q)
      | _ => q
    else q
  else p

/-! ## Precheck -/

/-- A session enters PRECHECK (R65): the hose becomes active, the dispenser's claims are placed, the FILL request is
filed and a bank asked for; or the session ends at once with SENSOR_FAULT. -/
def enterPrecheck (h : Hose) (p : Plant) : Plant :=
  let d := h.disp
  let p := modSession h (fun x =>
    { x with state := .precheck, wait := none, queuePos := none, entered := true, coupling := x.coupling.stop }) p
  let p := leaveQueue h p
  let p := modDisp d (fun c => { c with silence := .start, zeroCount := 0 }) p
  let p := shutValves h p
  if (p.analogs.pt.get h).valid then
    let p := file (.disp d) .fill (fillDemand ((p.grade.get h).getD .h70)) p
    precheckBank h (requestFirst h p)
  else endFill h .sensorFault p

/-- An authorised, coupled hose enters PRECHECK where the start conditions hold, and QUEUED otherwise (R59, R60). -/
def startOrQueue (h : Hose) (p : Plant) : Plant :=
  if p.startConditions h.disp then enterPrecheck h p else enterQueue h p

/-- The steps of the pulse that wait for readbacks (R66): the pressure once both valves agree with open and HOLD does not
hold, and the first sample once Dn.PCV agrees with 0. -/
def pulseReadbacks (h : Hose) (p : Plant) : Plant :=
  let x := p.sessions.get h
  if x.state = .precheck then
    match x.pulseStep, x.bank with
    | some .valves, some k =>
      if p.agreesOpen (.hv h) && p.agreesOpen (.inlet h.disp k) && !p.hold then
        drivePcv h.disp (p.hoseP h + 2000)
          (modSession h (fun x => { x with pulseStep := some .pulsing, pulse := .start }) p)
      else p
    | some .closing, _ =>
      if p.agreesAt (.pcv h.disp) (.setpoint 0) then
        modSession h (fun x => { x with pulseStep := some .settling, pa := some (p.hoseP h), settle := .start }) p
      else p
    | _, _ => p
  else p

/-- The expiry of the pulse timer (R66 step 3). -/
def pulseDone (h : Hose) (p : Plant) : Plant :=
  drivePcv h.disp 0 (modSession h (fun x => { x with pulseStep := some .closing, pulse := .stopAt 3000 }) p)

/-- The state of a receiver (R110). -/
def Receiver.state (r : Receiver) : ReceiverState :=
  match r.frame with
  | none => .none
  | some _ => if r.ageMs < 1000 ∧ r.invalidRun < 3 then .current else .stale

/-- The frame that passes the comm check against Pb, if any (R68). -/
def Plant.commFrame (p : Plant) (h : Hose) (pb : Nat) : Option VehFrame :=
  let r := p.receivers.get h
  if r.state = .current then
    r.frame.filter fun f => decide (f.pressure ≤ pb + 5000) && decide (pb ≤ f.pressure + 5000)
  else none

/-- The session after the comm check (R68). -/
def Session.commChecked (x : Session) (g : Grade) (f : Option VehFrame) : Session :=
  match f with
  | some f =>
    let c := soc g f.pressure f.temperature
    { x with comm := some .comm, startFrame := some f, socFrame := some f, startSoc := some c, lastSoc := some c }
  | none => { x with comm := some .noncomm }

/-- The reason of the first pulse test that fails (R67), in the order of the table. -/
def pulseTest (pa pb endP : Nat) : Option EndReason :=
  if pb + 1000 < pa then some .leak
  else if pb < 500 then some .tankEmpty
  else if endP ≤ pb then some .targetPressure
  else none

/-- The expiry of the settle timer (R66 step 5, R67, R68). -/
def settleDone (h : Hose) (p : Plant) : Plant :=
  let g := (p.grade.get h).getD .h70
  let pb := p.hoseP h
  let p := modSession h (fun x => (x.commChecked g (p.commFrame h pb))) p
  let p := modSession h (fun x => { x with settle := .stopAt 5000 }) p
  let x := p.sessions.get h
  match pulseTest (x.pa.getD 0) pb (endPressure (x.comm.getD .noncomm) g p.bandNow) with
  | some r => endFill h r p
  | none => modSession h (fun x =>
      { x with state := .waitPrecool, initialP := some pb, precoolWait := .start, pulseStep := none }) p

/-! ## Filling -/

/-- A hose pressure sample reaches a running fill (R90, R93, R96 to R99). DESIGN CHOICE (assumption 40): the record
changes first, also where the sample ends the fill. -/
def rampSample (h : Hose) (hoseP : Nat) (p : Plant) : Plant :=
  match p.runningRamp h.disp with
  | none => p
  | some r =>
    let q := r.corridor hoseP
    let p := putRamp h.disp q p
    let p := if q.pauses.isEmpty then p else modDisp h.disp (fun c => { c with switchT := .zero }) p
    match firstReason (pressureReasons q.endP hoseP) with
    | some e => endFill h e p
    | none =>
      if r.pauses.isEmpty then drivePcv h.disp (if q.pauses.isEmpty then q.target else 0) p else p

/-- A session enters FILLING (R71, R86). -/
def enterFilling (h : Hose) (p : Plant) : Plant :=
  let d := h.disp
  let g := (p.grade.get h).getD .h70
  let p := modDisp d (fun c => { c with ramp := some (newRamp p h g), switchT := .zero }) p
  let p := modSession h (fun x =>
    { x with state := .filling, classStart := some (p.measured.get d), precoolWait := x.precoolWait.stop
             oldInlet := none }) p
  let p := { p with classSettle := p.classSettle.set d .start, classStep := p.classStep.set d .zero }
  rampSample h (p.hoseP h) (noticeSession h p)

/-- A session in WAIT_PRECOOL is ready to flow (R70). -/
def Plant.readyToFlow (p : Plant) (h : Hose) : Bool :=
  match p.grade.get h with
  | some g => rateEntry g p.bandNow (p.measured.get h.disp) ≠ 0
  | none => false

/-- A session in WAIT_PRECOOL whose request is granted and that is ready to flow enters FILLING (R70). -/
def tryFilling (h : Hose) (p : Plant) : Plant :=
  if p.sessState h = .waitPrecool ∧ p.fillGranted h.disp ∧ p.readyToFlow h then enterFilling h p else p

/-- The switch timer tested at a sample of either pressure (R23). -/
def switchTest (h : Hose) (p : Plant) : Plant :=
  let d := h.disp
  match p.runningRamp d, (p.sessions.get h).bank with
  | some r, some k =>
    let low := match (p.banks.get k).pressure with
      | some q => decide (q < p.hoseP h + 1500)
      | none => false
    modDisp d (fun c =>
      { c with switchT := if low && r.pauses.isEmpty then (if c.switchT.running then c.switchT else .start)
                          else .zero }) p
  | _, _ => p

/-- A valid sample of a hose's pressure reaches its session (R25, R93 to R99). -/
def hoseSample (h : Hose) (hoseP : Nat) (p : Plant) : Plant :=
  match p.sessState h, p.grade.get h with
  | .filling, _ => renew h (switchTest h (rampSample h hoseP p))
  | .precheck, some g | .waitPrecool, some g =>
    renew h (if endPressure .comm g 0 + 2000 < hoseP then endFill h .overpressure p else p)
  | _, _ => p

/-- The valve sequence of a held bank (R24 step 2, R66 step 1): its inlet valve commanded open once every other inlet valve
of the dispenser agrees with closed. -/
def openInlet (d : Disp) (p : Plant) : Plant :=
  match p.activeHose d with
  | none => p
  | some h =>
    match (p.sessions.get h).bank with
    | none => p
    | some k =>
      if (p.outs.get (.inlet d k)).function = some (.position true) then p
      else if BankId.all.all fun j => j = k || p.agreesClosed (.inlet d j) then driveValve (.inlet d k) true p
      else p

/-- BANK_SWITCH removed (R24 steps 3 and 4): at the held bank's inlet agreeing with open, or with no bank at the old one's
agreeing with closed. -/
def endSwitch (d : Disp) (p : Plant) : Plant :=
  match p.runningRamp d with
  | none => p
  | some r =>
    let x := p.sessions.get r.hose
    if r.pauses.bankSwitch.isNone then p
    else match x.bank, x.oldInlet with
      | some k, _ =>
        if p.agreesOpen (.inlet d k) then
          modSession r.hose (fun x => { x with oldInlet := none })
            (modDisp d (fun c => { c with switchT := .zero }) (removePause d .bankSwitch p))
        else p
      | none, some o =>
        if p.agreesClosed (.inlet d o) then
          modSession r.hose (fun x => { x with oldInlet := none }) (removePause d .bankSwitch p)
        else p
      | none, none => p

/-! ## Communication (06) -/

/-- A line loss of a hose's receiver (R92, R113). -/
def lineLoss (h : Hose) (p : Plant) : Plant :=
  let x := p.sessions.get h
  if x.comm = some .comm ∧ (x.state = .waitPrecool ∨ x.state = .filling) then
    let p := modSession h (fun x => { x with comm := some .lost }) p
    match x.state, p.runningRamp h.disp, p.grade.get h with
    | .filling, some r, some g =>
      let q := r.rateChange g r.cls .lost
      let p := putRamp h.disp q.1 p
      endFor h (reasonIf q.2 .precoolLost ++ reasonIf (q.1.endP ≤ p.hoseP h) .targetPressure) p
    | _, _, _ => p
  else p

/-- The state of charge of a COMM fill kept current from a valid frame (R112). -/
def Session.socUpdated (x : Session) (g : Grade) (f : VehFrame) : Session :=
  if x.comm = some .comm then
    { x with lastSoc := some (soc g f.pressure f.temperature), socFrame := some f }
  else x

/-- The reasons a valid frame meets for a session (R98, R99, R115). -/
def frameReasons (x : Session) (f : VehFrame) : List EndReason :=
  let comm := x.state = .filling ∧ x.comm = some .comm
  reasonIf (comm ∧ 3581 ≤ f.temperature) .overtemp
    ++ reasonIf (f.command = 2) .vehicleAbort
    ++ reasonIf (comm ∧ x.targetSoc.getD 980 ≤ x.lastSoc.getD 0) .targetSoc

/-- A valid frame handed to a session in PRECHECK, WAIT_PRECOOL or FILLING (R111, R114, R115). -/
def frameToFill (h : Hose) (f : VehFrame) (p : Plant) : Plant :=
  let g := (p.grade.get h).getD .h70
  let p := modSession h (fun x => if x.state = .precheck then x else x.socUpdated g f) p
  let p := endFor h (frameReasons (p.sessions.get h) f) p
  if p.sessState h = .filling then
    if f.command = 1 then addPause h.disp .vehicleHalt p
    else if f.command = 0 then removePause h.disp .vehicleHalt p
    else p
  else p

/-! ## Conditions (R81) -/

/-- HOLD becoming true reaches the active sessions. -/
def holdReaches (p : Plant) : Plant :=
  eachDisp (fun d p =>
    match p.activeHose d with
    | some h =>
      match p.sessState h with
      | .filling => addPause d .hold p
      | .precheck => clearPulse h p
      | _ => p
    | none => p) p

/-- HOLD becoming false reaches the active sessions; the precheck resumes by its readbacks. -/
def holdLeaves (p : Plant) : Plant := eachDisp (fun d => removePause d .hold) p

/-! ## Coming to rest -/

/-- A session of LIFTED or COUPLED cancelled (R63): it has no ticket. -/
def cancelPlain (h : Hose) (r : EndReason) (p : Plant) : Plant :=
  noticeSession h (modSession h (fun x => { x with state := .settled, endReason := some r }) p)

/-- The ramp record emptied as its hose enters IDLE (R85). -/
def emptyRamp (h : Hose) (p : Plant) : Plant :=
  modDisp h.disp (fun c =>
    { c with ramp := match c.ramp with | some r => if r.hose = h then none else some r | none => none }) p

/-- A SETTLED session whose nozzle is in its holster and uncoupled enters IDLE, and the keep-cold interval starts where it
had entered PRECHECK (R74, R47). The start replaces any time the interval had left, so that with a keep-cold time of 0 an
interval that ran is stopped (assumption 25). -/
def settledToIdle (h : Hose) (p : Plant) : Plant :=
  if p.sessState h = .settled ∧ p.deasserted (.hol h) ∧ p.deasserted (.cpl h) then
    let p := if (p.sessions.get h).entered then
        { p with keepT := p.keepT.set h.disp (if p.cfg.keepCold = 0 then none else some (p.cfg.keepCold * 60000)) }
      else p
    emptyRamp h (modSession h (fun x => { x with state := .idle }) p)
  else p

/-- A LIFTED or COUPLED session whose nozzle is in its holster enters IDLE with its record cleared (R57). -/
def unliftedToIdle (h : Hose) (p : Plant) : Plant := emptyRamp h (p.setSession h .powerOn)

/-- An IDLE session enters LIFTED with its record and its receiver cleared, and passes on to COUPLED where the nozzle is
coupled (R55, R109). -/
def liftHose (h : Hose) (p : Plant) : Plant :=
  let p := (p.setSession h { Session.powerOn with state := .lifted }).setReceiver h .cleared
  let p := noticeSession h p
  if p.asserted (.cpl h) then noticeSession h (modSession h (fun x => { x with state := .coupled }) p) else p

/-- The wait reason of a QUEUED hose set afresh (R61). -/
def freshWait (h : Hose) (p : Plant) : Plant :=
  if p.sessState h = .queued then
    match p.waitReason h with
    | some w => modSession h (fun x => { x with wait := some w }) p
    | none => p
  else p

/-- The handover (R62): where the start conditions hold, the first of a dispenser's QUEUED hoses enters PRECHECK. -/
def handover (d : Disp) (p : Plant) : Plant :=
  let isFirst := fun h => p.sessState h = .queued && (p.sessions.get h).queuePos = some .first
  if p.startConditions d then
    if isFirst d.hoseA then enterPrecheck d.hoseA p
    else if isFirst d.hoseB then enterPrecheck d.hoseB p
    else p
  else p

/-! ## Parking (R180, R77) -/

/-- A dispenser enters PARKED, with its intervals stopped, and DISPENSER_PARKED noticed where it was not. DESIGN CHOICE
(assumption 37): a breakaway of a PARKED dispenser stops its intervals too. -/
def parkNow (d : Disp) (p : Plant) : Plant :=
  let q := stopIntervals d (modDisp d (fun c => { c with park := .parked }) p)
  if (p.disps.get d).park = .parked then q else notify (.dispenserParked d) q

/-- A PARKING dispenser that is quiet enters PARKED (R180). -/
def parkWhenQuiet (d : Disp) (p : Plant) : Plant :=
  if (p.disps.get d).park = .parking && p.isQuiet d then parkNow d p else p

end Sys2Proof.Machine
end

