-- ==== Sys2Proof/Machine/Settlement.lean ====
section
/-! DEFINITION. Where sessions meet money: authorisation (R58, R59, R139, R140), the settlement and finalisation of a
session (R73, R143, R154), cancellation (R63), and the limit tests of a meter report (R100, R142). -/

namespace Sys2Proof.Machine

/-- The plant of a state changed by a function. -/
def State.onPlant (f : Plant → Plant) (s : State) : State := { s with plant := f s.plant }

/-- The office of a state changed by a function. -/
def State.onOffice (f : Office → Office) (s : State) : State := { s with office := f s.office }

/-- Notices raised in order. -/
def notifyAll (ns : List Notice) (p : Plant) : Plant := ns.foldl (fun p n => notify n p) p

/-! ## Settlement and finalisation -/

/-- What a session gives its ticket at finalisation (R154), before the batch number. -/
def Session.ticketEnd (x : Session) (now : Clock) (b : Bill) : TicketEnd :=
  { time := now
    verified := x.verified
    unverified := x.unverified
    amount := b.amount
    covered := b.covered
    shortfall := b.shortfall
    reason := x.endReason.getD .cancelled
    comm := x.comm
    startSoc := x.startSoc
    endSoc := x.lastSoc
    estimate := x.estimate
    initialP := x.initialP
    finalP := x.finalP
    classStart := x.classStart
    classEnd := x.classEnd
    tainted := x.tainted
    discrepancy := discrepant x.verified x.estimate
    batch := none }

/-- The bill of a session (R143). -/
def Session.bill (x : Session) : Bill := Machine.bill (x.price.getD 0) x.verified (x.hold.getD 0)

/-- A session's credential settled (R143). -/
def settleCred (x : Session) (o : Office) : Office :=
  match x.cred with
  | none => o
  | some i =>
    match credAt i o.creds with
    | none => o
    | some c => { o with creds := credPut i (c.settle (x.hold.getD 0) x.bill.covered) o.creds }

/-- A session's ticket finalised and offered (R154, R158): the office, and the BATCH_CLOSED notices of the offering. -/
def finaliseTicket (x : Session) (o : Office) : Placed :=
  match o.openTickets.find? fun t => some t.number = x.ticket with
  | none => ⟨o, none, []⟩
  | some t =>
    let e := x.ticketEnd o.now x.bill
    let o := { o with openTickets := o.openTickets.filter fun y => y.number ≠ t.number }
    let r := o.offer t e.tainted e.verified e.amount
    ⟨{ r.office with finalised := r.office.finalised ++ [⟨t, { e with batch := r.batch }⟩] }, r.batch, r.closes⟩

/-- An authorised session ended for good (R63, R73): settled, its ticket finalised, the session SETTLED, its order retired
(R131), and the notices SESSION, TICKET_READY, ORDER_RESULT and BATCH_CLOSED in that order (R160). -/
def finish (h : Hose) (s : State) : State :=
  let x := s.plant.sessions.get h
  let r := finaliseTicket x (settleCred x s.office)
  let p := noticeSession h (modSession h (fun x => { x with state := .settled }) s.plant)
  let p := match x.ticket with
    | some n => notify (.ticketReady n) p
    | none => p
  let p := match s.office.bindings.get h with
    | some b => notify (.orderResult b.order.busId (some h) (.ended (x.endReason.getD .cancelled)) (some b.ticket)) p
    | none => p
  { s with
    plant := notifyAll r.closes p
    office := { r.office with bindings := r.office.bindings.set h none } }

/-- The completion of afterflow (R73): the session in ENDING is finished, its timers stop and its claims are withdrawn.
DESIGN CHOICE (assumption 34): the meter silence timer keeps its value. -/
def completeAfterflow (h : Hose) (s : State) : State :=
  if s.plant.sessState h = .ending then
    let s := s.onPlant (modSession h fun x => { x with afterflow := x.afterflow.stop })
    let s := finish h s
    s.onPlant fun p =>
      withdrawValves h (modDisp h.disp (fun c => { c with zeroCount := 0, silence := c.silence.stop }) p)
  else s

/-- A session cancelled before PRECHECK (R63): settled with its whole hold returned where it is authorised. -/
def cancel (h : Hose) (r : EndReason) (s : State) : State :=
  match s.plant.sessState h with
  | .lifted | .coupled => s.onPlant (cancelPlain h r)
  | .authorised | .queued =>
    let s := s.onPlant fun p =>
      leaveQueue h (modSession h (fun x =>
        { x with endReason := some r, coupling := x.coupling.stop, wait := none, queuePos := none }) p)
    finish h s
  | _ => s

/-- A session ended or cancelled by one event that reaches it in any state: a running fill ends with `running`, and one not
yet in PRECHECK is cancelled with `waiting`. -/
def endOrCancel (h : Hose) (running waiting : EndReason) (s : State) : State :=
  if (s.plant.sessState h).running then s.onPlant (endFill h running) else cancel h waiting s

/-- A function applied to the state for each hose in order. -/
def everyHose (f : Hose → State → State) (s : State) : State := Hose.all.foldl (fun s h => f h s) s

/-- A function applied to the state for both hoses of a dispenser. -/
def bothHoses (d : Disp) (f : Hose → State → State) (s : State) : State := f d.hoseB (f d.hoseA s)

/-- A close order of STOP or FINISH, or a park order, reaches a session (R80). -/
def closeOrder (k : CloseKind) (h : Hose) (s : State) : State :=
  match k with
  | .stop => endOrCancel h .stationClose .cancelled s
  | .finish => cancel h .cancelled s

/-! ## Authorisation -/

/-- What an authorisation asks for: the credential by key or by order (R58, R128), and the items that go with it. -/
structure AuthAsk where
  key : Option (Nat × Nat)
  order : Option Order
  preset : Option Nat
  massLimit : Option Nat
  targetSoc : Nat

/-- What a passed authorisation takes: the entry's index, the entry, and the hold formed. -/
structure AuthTake where
  index : Nat
  cred : Cred
  hold : Nat
  grade : Grade

/-- The entry an authorisation finds, and its index: by key, or by the order's index with the kind FLEET (R139). -/
def Office.findCred (o : Office) (a : AuthAsk) : Option (Nat × Cred) :=
  match a.order with
  | some r =>
    match credAt r.credIndex o.creds with
    | some c => if c.kind = .fleet then some (r.credIndex, c) else none
    | none => none
  | none =>
    match a.key with
    | some k => o.creds.find? fun e => e.2.issuer = k.1 && e.2.token = k.2
    | none => none

/-- The checks of R58 from item 2 onward: what is to be taken, or the first refusal. -/
def authCheck (h : Hose) (a : AuthAsk) (s : State) : Except Status AuthTake :=
  match s.plant.grade.get h with
  | none => .error .notPresent
  | some g =>
    let st := s.plant.sessState h
    if s.plant.mode ≠ .opened ∨ s.plant.trip ∨ (s.plant.disps.get h.disp).park ≠ .active
        ∨ (st ≠ .lifted ∧ st ≠ .coupled) then .error .wrongState
    else
      match s.office.findCred a with
      | none => .error .notFound
      | some e =>
        match e.2.refusal s.office.clock g a.preset with
        | some r => .error r
        | none => if s.office.ticketPlace then .ok ⟨e.1, e.2, e.2.holdFor a.preset, g⟩ else .error .full

/-- The smaller of two limits that may be absent (R59). -/
def smallerLimit : Option Nat → Option Nat → Option Nat
  | some a, some b => some (min a b)
  | some a, none => some a
  | none, b => b

/-- The price a fill is given (R151). -/
def Office.priceFor (o : Office) (c : Cred) (g : Grade) : Nat :=
  if c.kind = .service then 0
  else match o.current with
    | some x => x.price g c.priceClass
    | none => 0

/-- An authorisation taken (R59): the hold taken, the ticket opened, the price and period id fixed, the session's fields
recorded, and the session moved on. -/
def authTake (h : Hose) (a : AuthAsk) (t : AuthTake) (s : State) : State :=
  let o := s.office
  let n := o.nextTicket
  let price := o.priceFor t.cred t.grade
  let ticket : Ticket :=
    { number := n, hose := h, grade := t.grade, cred := t.index, kind := t.cred.kind, account := t.cred.account
      bus := a.order.map fun r => r.busId, start := o.now, periodId := o.periodId, price := price, hold := t.hold }
  let o := { o with creds := credPut t.index (t.cred.takeHold t.hold) o.creds }.openTicket ticket
  let wasLifted := s.plant.sessState h = .lifted
  let p := modSession h (fun x =>
    { x with cred := some t.index, ticket := some n, hold := some t.hold, price := some price
             periodId := some o.periodId, targetSoc := some a.targetSoc
             massLimit := smallerLimit t.cred.massLimit a.massLimit
             order := a.order.map fun r => (r.busId, r.targetSoc) }) s.plant
  let p :=
    if wasLifted then modSession h (fun x => { x with state := .authorised, coupling := .start }) p
    else startOrQueue h p
  { s with plant := p, office := o }

/-! ## The live stop -/

/-- Whether a session's fill is under a SERVICE credential: the kind its ticket was opened with (R100). -/
def Office.isService (o : Office) (x : Session) : Bool :=
  o.openTickets.any fun t => some t.number = x.ticket && t.kind = .service

/-- The reasons a meter report meets (R100, R142). -/
def limitReasons (x : Session) (margin : Nat) (service : Bool) : List EndReason :=
  let price := x.price.getD 0
  reasonIf (!service && price ≠ 0 && x.hold.getD 0 ≤ billAmount price (x.verified + margin)) .allowance
    ++ reasonIf (match x.massLimit with | some m => decide (m ≤ x.verified + margin) | none => false) .massLimit

/-- A meter report attributed to a session (R75, R76): the masses and the taint. -/
def Session.metered (x : Session) (increment : Nat) (fault : Bool) : Session :=
  if x.tainted || fault then
    { x with tainted := true, unverified := min 200000 (x.unverified + increment) }
  else { x with verified := min 200000 (x.verified + increment) }

/-- A meter report of a dispenser whose active hose is given (R73, R75, R76, R100). -/
def meterActive (h : Hose) (increment : Nat) (fault service : Bool) (p : Plant) : Plant :=
  let d := h.disp
  let before := p.sessions.get h
  let p := modDisp d (fun c => { c with silence := .start }) p
  let p := modSession h (fun x => x.metered increment fault) p
  if before.state = .ending then
    modDisp d (fun c => { c with zeroCount := if increment = 0 then c.zeroCount + 1 else 0 }) p
  else
    endFor h (reasonIf (fault && !before.tainted) .meterFault
      ++ limitReasons (p.sessions.get h) p.cfg.margin service) p

/-- The meter silence timer reaching 1 s (R76). -/
def silenceTaint (h : Hose) (p : Plant) : Plant :=
  let p := modDisp h.disp (fun c => { c with silence := .stopAt 1000 }) p
  if (p.sessions.get h).tainted then p
  else endFill h .meterFault (modSession h (fun x => { x with tainted := true }) p)

end Sys2Proof.Machine
end

