-- ==== Sys2Proof/Machine/Depot.lean ====
section
/-! DEFINITION. The depot queue (07) and what the station clock and the tariff bring about (R147 to R150): the window,
matching a bus to its order, retirement of deadlines, and period changes. -/

namespace Sys2Proof.Machine

/-! ## The queue and its window -/

/-- The window: the first six orders (R125). -/
def Office.window (o : Office) : List Order := o.queue.take Config.windowPlaces

/-- The window demand (R125). -/
def Office.windowDemand (o : Office) : Nat := (o.window.map fun r => r.expectedMass).sum

/-- The depot report of a dispenser (R126). -/
def Office.report (o : Office) (d : Disp) : Bool := o.window.any fun r => r.mask.get d

/-- The window demand and the depot reports passed on (R125, R126). -/
def passWindow (s : State) : State :=
  { s with plant :=
      { s.plant with windowDemand := s.office.windowDemand, reports := .make fun d => s.office.report d } }

/-- The place of a queued order in the list, from 0, and the order. -/
def findOrder (bus : Nat) : List Order → Option (Nat × Order)
  | [] => none
  | r :: rs =>
    if r.busId = bus then some (0, r)
    else match findOrder bus rs with
      | some x => some (x.1 + 1, x.2)
      | none => none

/-- The list without the order of a bus. -/
def dropOrder (bus : Nat) (rs : List Order) : List Order := rs.filter fun r => r.busId ≠ bus

/-- An order inserted behind the first k (R121). -/
def insertOrder (k : Nat) (r : Order) (rs : List Order) : List Order := rs.take k ++ r :: rs.drop k

/-- Whether a bus has an in-service order (R119). -/
def Office.inService (o : Office) (bus : Nat) : Bool :=
  Hose.all.any fun h => match o.bindings.get h with | some b => b.order.busId = bus | none => false

/-! ## Matching (R127 to R130) -/

/-- What an authorisation by order asks for (R128): no preset and no mass limit of its own. -/
def orderAsk (r : Order) : AuthAsk :=
  { key := none, order := some r, preset := none, massLimit := none, targetSoc := r.targetSoc }

/-- A queued order placed in service for a hose and its session authorised (R128, R130). -/
def serveOrder (h : Hose) (r : Order) (t : AuthTake) (s : State) : State :=
  let n := s.office.nextTicket
  let s := s.onOffice fun o =>
    { o with queue := dropOrder r.busId o.queue, bindings := o.bindings.set h (some ⟨r, n⟩) }
  passWindow (authTake h (orderAsk r) t s)

/-- The outcome of a seek recorded in the match record of a hose (R127). -/
def recordSeek (h : Hose) (id : Nat) (x : SeekOutcome) (s : State) : State :=
  s.onOffice fun o => { o with seeks := o.seeks.set h (some ⟨id, x⟩) }

/-- A vehicle id sought for a hose (R127 step 3, R128, R129). -/
def seek (h : Hose) (id : Nat) (s : State) : State :=
  match findOrder id s.office.queue with
  | some (i, r) =>
    if i < Config.windowPlaces ∧ r.mask.get h.disp then
      match authCheck h (orderAsk r) s with
      | .ok t => serveOrder h r t s
      | .error c => (recordSeek h id .refused s).onPlant (notify (.orderRefused id h c))
    else
      let q := recordSeek h id .outOfTurn s
      if s.office.seeks.get h = some ⟨id, .outOfTurn⟩ then q
      else q.onPlant (notify (.orderOutOfTurn id h (i + 1) (r.mask.get h.disp)))
  | none =>
    if s.office.inService id then
      (recordSeek h id .refused s).onPlant (notify (.orderRefused id h .duplicate))
    else recordSeek h id .notFound s

/-- A vehicle id forwarded from a COUPLED session (R116, R127). -/
def forward (h : Hose) (id : Nat) (s : State) : State :=
  if s.plant.mode ≠ .opened ∨ s.plant.trip ∨ (s.plant.disps.get h.disp).park ≠ .active then s
  else if s.office.seeks.get h = some ⟨id, .refused⟩ then s
  else seek h id s

/-- The match records of the hoses that are not COUPLED cleared (R127). -/
def clearSeeks (s : State) : State :=
  s.onOffice fun o =>
    { o with seeks := o.seeks.mapId fun h m => if s.plant.sessState h = .coupled then m else none }

/-! ## Batches closed by an event (R161) -/

/-- The open batches that pass a test closed with a cause, and noticed. -/
def closeWith (cause : CloseCause) (f : Batch → Bool) (s : State) : State :=
  let r := s.office.closeBatches cause f
  { s with plant := notifyAll r.2 s.plant, office := r.1 }

/-! ## The clock and the tariff -/

/-- A period change (R150). -/
def periodChange (s : State) : State :=
  closeWith .periodChange (fun _ => true) (s.onOffice fun o => { o with periodId := (o.periodId + 1) % 4294967296 })

/-- The queued orders whose deadline the clock has passed removed and noticed, head first (R132). -/
def expireOrders (s : State) : State :=
  match s.office.clock with
  | none => s
  | some t =>
    let late := fun (r : Order) => match r.deadline with | some x => t.passed x | none => false
    let gone := s.office.queue.filter late
    let s := s.onOffice fun o => { o with queue := o.queue.filter fun r => !late r }
    passWindow (s.onPlant (notifyAll (gone.map fun r => .orderResult r.busId none .lapsed none)))

/-- The clock's advance by one second (R147, R150, R132); nothing while it is unset. DESIGN CHOICE (assumption 26):
BATCH_CLOSED of a period change comes before ORDER_RESULT of the orders that expire. -/
def clockAdvance (s : State) : State :=
  match s.office.clock with
  | none => s
  | some t =>
    let s := s.onOffice fun o => { o with clock := some t.advance, clockMs := 0 }
    let crossed := match s.office.tariff with
      | some xs => xs.any fun x => x.start * 60 = t.advance.second
      | none => false
    expireOrders (if crossed then periodChange s else s)

/-- The clock set (R148): a period change where the current period differs, and the deadlines tested. DESIGN CHOICE
(assumption 26): in that order, as at an advance. -/
def setClock (t : Clock) (s : State) : State :=
  let before := s.office.current.map fun x => x.start
  let s := s.onOffice fun o => { o with clock := some t, clockMs := 0 }
  let after := s.office.current.map fun x => x.start
  expireOrders (if after.isSome && after ≠ before then periodChange s else s)

/-- A tariff table loaded (R149): a period change. -/
def loadTariff (xs : List Period) (s : State) : State :=
  periodChange (s.onOffice fun o => { o with tariff := some xs })

end Sys2Proof.Machine
end

