-- ==== Sys2Proof/Machine/Station.lean ====
section
/-! DEFINITION. The Station Condition Unit (11): the sources and the conditions, the closing of the station, RESTART, and
the settling of an event: what the conditions that then stand bring about in every block. -/

namespace Sys2Proof.Machine

/-! ## Condition sources -/

/-- Whether a gas detector's debounced level is a value. -/
def Plant.levelIs (p : Plant) (x : SwitchPoint) (n : Nat) : Bool := (p.switches.get x).level = some n

/-- Whether a condition source is asserted (11, "Condition Sources"). -/
def Plant.asserts (p : Plant) : Source → Bool
  | .esd d => p.asserted (.esd d)
  | .gdTrip d => p.levelIs (.gd d) 2
  | .caTrip => p.levelIs .caGd 2
  | .fd1 => p.asserted .fd1
  | .fd2 => p.asserted .fd2
  | .hostTrip => p.hostTrip
  | .gdHold d => p.levelIs (.gd d) 1
  | .caHold => p.levelIs .caGd 1
  | .hostHold => p.hostHold
  | .chiller => StageId.all.all fun s => (p.stages.get s).state.isFault

/-- The TRIP sources other than host TRIP. -/
def Source.field : List Source :=
  [.esd .d1, .esd .d2, .esd .d3, .esd .d4, .gdTrip .d1, .gdTrip .d2, .gdTrip .d3, .gdTrip .d4, .caTrip, .fd1, .fd2]

/-- The HOLD sources. -/
def Source.holds : List Source :=
  [.gdHold .d1, .gdHold .d2, .gdHold .d3, .gdHold .d4, .caHold, .hostHold, .chiller]

/-- Every source, in the order of R190. -/
def Source.all : List Source := Source.field ++ [.hostTrip] ++ Source.holds

/-- The asserted sources, in the order of R190. -/
def Plant.sources (p : Plant) : List Source := Source.all.filter fun x => p.asserts x

/-- Whether a TRIP source other than host TRIP is asserted (R182). -/
def Plant.fieldTrip (p : Plant) : Bool := Source.field.any fun x => p.asserts x

/-- Whether any HOLD source is asserted (R181). -/
def Plant.holdSource (p : Plant) : Bool := Source.holds.any fun x => p.asserts x

/-! ## The conditions -/

/-- TRIP becoming true reaches the supply, the precooling and the field points (R16, R34, R53, R166). -/
def tripReachesPlant (p : Plant) : Plant :=
  let p := eachBank (fun k => isolate k .trip) p
  let p := eachComp (fun c p =>
    match (p.comps.get c).state with
    | .lockedOut _ => p
    | .stopped => release (.comp c) p
    | _ => compRest c .stopped p) p
  let p := eachStage (fun x p => if (p.stages.get x).state.runOn then stageOff x p else p) p
  placeSafety (evaluate p)

/-- TRIP becoming true reaches a session (R81). -/
def tripSession (h : Hose) (s : State) : State :=
  match s.plant.sessState h with
  | .lifted | .coupled => s
  | _ => endOrCancel h .stationTrip .stationTrip s

/-- TRIP becoming true. -/
def tripOn (s : State) : State := (everyHose tripSession s).onPlant tripReachesPlant

/-- TRIP becoming false: the SAFETY claims and the banks' TRIP cause removed (R17, R166). BANK_STATE comes after
CONDITION: the model's choice (assumptions 26 and 27). -/
def tripOff (p : Plant) : Plant := eachBank (fun k => unisolate k .trip) (removeSafety p)

/-- HOLD and TRIP take values: CONDITION is noticed where either changes, and the change reaches the blocks (R181, R182).
DESIGN CHOICE (assumption 26): CONDITION comes before the notices of the blocks, BANK_STATE among them. DESIGN CHOICE
(assumption 39): where one event changes both, TRIP reaches the blocks before HOLD. -/
def setConditions (hold trip : Bool) (s : State) : State :=
  let p := s.plant
  if p.hold = hold ∧ p.trip = trip then s
  else
    let q := { p with hold := hold, trip := trip }
    let s := { s with plant := notify (.condition hold trip q.sources) q }
    let s := if trip && !p.trip then tripOn s else s
    let s := if !trip && p.trip then s.onPlant tripOff else s
    if hold && !p.hold then s.onPlant holdReaches
    else if !hold && p.hold then s.onPlant holdLeaves
    else s

/-- The conditions formed again from their sources (R181, R182): HOLD follows them, TRIP is latched. -/
def refresh (s : State) : State :=
  setConditions s.plant.holdSource (s.plant.trip || s.plant.fieldTrip || s.plant.hostTrip) s

/-! ## Closing (R178, R179) -/

/-- The quiet reports set by the dispensers that are quiet. -/
def Plant.quietNow (p : Plant) : PerDisp Bool := p.quiet.mapId fun d q => q || p.isQuiet d

/-- Whether every present dispenser has reported quiet. -/
def Plant.allQuiet (p : Plant) : Bool := Disp.all.all fun d => !p.dispPresent d || p.quiet.get d

/-- The shutdown orders given to both compressors (R34, R179). -/
def shutDown (p : Plant) : Plant :=
  eachComp (fun c => giveOrder c (p.closeKind.getD .finish)) { p with shutdownGiven := true }

/-- The close kind, the quiet reports and shutdown given cleared, in a new mode. -/
def Plant.atMode (p : Plant) (m : StationMode) (k : Option CloseKind) : Plant :=
  { p with mode := m, closeKind := k, quiet := .make fun _ => false, shutdownGiven := false }

/-- Both shutdown orders returned to NONE. -/
def clearOrders (p : Plant) : Plant :=
  { p with comps := p.comps.mapId fun _ r => { r with shutdown := .none } }

/-- The station becomes CLOSED (R179): the open batches close, STATION_MODE is noticed, the shutdown orders and the
closing's fields are cleared. -/
def closed (s : State) : State :=
  let s := closeWith .stationClose (fun _ => true) s
  s.onPlant fun p => clearOrders (notify (.stationMode .closed none) (p.atMode .closed none))

/-- What a closing station does at an event (R179). -/
def closingStep (s : State) : State :=
  if s.plant.mode = .closing then
    let s := s.onPlant fun p => { p with quiet := p.quietNow }
    let s := if s.plant.allQuiet && !s.plant.shutdownGiven then s.onPlant shutDown else s
    if s.plant.shutdownGiven && (CompId.all.all fun c => (s.plant.comps.get c).state.atRest) then closed s else s
  else s

/-! ## Settling an event -/

/-- The waiting bank requests renewed where the event asked for it (R25). -/
def renewals (p : Plant) : Plant :=
  if p.renewDue then
    eachDisp (fun d q => match q.activeHose d with | some h => renew h q | none => q) { p with renewDue := false }
  else p

/-- One round of what the conditions that stand bring about in the plant: parking, stowing, handover, arming, starting
stages, the compressors, the sessions that wait, and the valves. A dispenser parks before its settled session returns to
IDLE in the same event: the model's choice (assumption 6). -/
def round (p : Plant) : Plant :=
  let p := eachDisp parkWhenQuiet p
  let p := eachHose settledToIdle p
  let p := eachDisp handover p
  let p := eachHose freshWait p
  let p := eachDisp arming p
  let p := startDecision p
  let p := eachComp compActs p
  let p := eachHose tryFilling p
  let p := eachDisp openInlet p
  let p := eachHose pulseReadbacks p
  let p := eachDisp endSwitch p
  let p := renewals p
  eachComp openDischarge p

/-- So many rounds. -/
def rounds : Nat → Plant → Plant
  | 0, p => p
  | n + 1, p => rounds n (round p)

/-- The last of an event in the plant: the precool valves as the grants stand, the stop timer, and the test of R166 as
units have entered and left maintenance. -/
def closeRound (p : Plant) : Plant :=
  { retestOutputs (settleStopTimer (eachDisp claimPrv p)) with renewDue := false }

/-- An event settled. -/
def settle (s : State) : State :=
  let s := closingStep (s.onPlant (rounds 4))
  clearSeeks (s.onPlant fun p => closeRound (rounds 2 p))

/-! ## RESTART (R183) -/

/-- A session of a present hose ended at a RESTART (R82). -/
def restartSession (h : Hose) (s : State) : State :=
  if s.plant.present h then completeAfterflow h (endOrCancel h .restart .cancelled s) else s

/-- The supply, the precooling and the field points take their restart values (R35, R53, R166). -/
def restartPlant (p : Plant) : Plant :=
  let p := eachComp (fun c p => compRest c .stopped p) p
  let p := eachComp (fun c p => withdrawDischarge c (setFunction (.compRun c) none p)) (clearOrders p)
  let p := eachStage (fun x p => if (p.stages.get x).state = .off then p else stageOff x p) p
  let p := eachDisp stopIntervals p
  let p := evaluate { p with stopT := .zero }
  let p := eachStage (fun x p => if p.asserted (.stageFlt x) then faultStage x .fault p else p) p
  removeManual p

/-- RESTART's effect (R183), in the order of the rule. A session whose nozzle is stowed enters IDLE with its ending (R74,
R82), before the intervals stop (R53), so that no keep-cold interval runs after the restart. DESIGN CHOICE (assumption
27), as is the order of its last notices: DISPENSER_PARKED, STATION_MODE, CONDITION, and then, where TRIP becomes false,
BANK_STATE of the banks that lose the cause TRIP. -/
def restartAll (s : State) : State :=
  let before := s.plant
  let s := everyHose restartSession s
  let s := s.onPlant (eachHose settledToIdle)
  let s := closeWith .restart (fun _ => true) s
  let s := s.onPlant restartPlant
  let s := s.onPlant fun p => { p with hostHold := false, hostTrip := false }
  let s := s.onPlant fun p => p.atMode .closed none
  let s := s.onPlant (eachDisp parkWhenQuiet)
  let s := s.onPlant fun p => if before.mode = .closed then p else notify (.stationMode .closed none) p
  setConditions s.plant.holdSource s.plant.fieldTrip s

end Sys2Proof.Machine
end

