-- ==== Sys2Proof/Machine/Layouts.lean ====
section
/-! DEFINITION. The items of the status replies (R36, R54, R83, R106, R118, R123, R145, R155, R162, R175, R184, R193). -/

namespace Sys2Proof.Machine

/-- A word with a bit set for each item present, the first item at bit 0. -/
def presence : Nat → List Bool → Nat
  | _, [] => 0
  | k, b :: bs => bit b k + presence (k + 1) bs

/-- An absent number sent as zero. -/
def orZero (n : Nat) (x : Option Nat) : List Byte := beBytes n (x.getD 0)

/-! ## Station, banks and chiller -/

/-- The items of STATION STATUS (R184). DESIGN CHOICE (assumption 13): the quiet reports and the park states in turn
without a count, and the clock as one optional item, whose marker says whether it is set. -/
def stationItems (s : State) : List Byte :=
  let p := s.plant
  let o := s.office
  let inClosing := fun (b : Bool) => if p.mode = .closing then some (if b then 1 else 0) else none
  u8 p.mode.code ++ optItem 1 (p.closeKind.map CloseKind.code)
    ++ (Disp.all.flatMap fun d => optItem 1 (inClosing (p.quiet.get d))) ++ optItem 1 (inClosing p.shutdownGiven)
    ++ yesNo p.hold ++ yesNo p.trip ++ u32 (sourcesCode p.sources)
    ++ (Disp.all.flatMap fun d => u8 (p.disps.get d).park.code)
    ++ optClock o.clock ++ yesNo o.tariff.isSome
    ++ u16 o.counts.check ++ u16 o.counts.length ++ u16 o.counts.gap ++ u16 o.counts.kind ++ u16 o.counts.overrun

/-- A bank record as it is sent (R36). -/
def bankItems (p : Plant) (k : BankId) : List Byte :=
  let b := p.banks.get k
  u8 k.number ++ u8 b.tier.code ++ u16 b.volume ++ u32 b.maxP ++ u32 b.refill ++ u32 b.floorP
    ++ validItem 4 b.pressure ++ validItem 2 b.temperature ++ u8 b.state.code ++ u8 (dispSetCode b.drawers)
    ++ optItem 1 (b.filler.map CompId.number) ++ u8 b.causes.code ++ u32 b.inventory

/-- The grant request of a compressor: none, waiting or held (R44). -/
def grantCode (p : Plant) (c : CompId) : Nat :=
  match p.requestOf (.comp c) with
  | none => 0
  | some r => if r.granted then 2 else 1

/-- A compressor record as it is sent (R36). -/
def compItems (p : Plant) (c : CompId) : List Byte :=
  let r := p.comps.get c
  u8 r.state.code ++ optItem 1 (match r.state with | .loaded k => some k.number | _ => none)
    ++ yesNo r.enabled ++ u8 (grantCode p c) ++ u8 r.shutdown.code
    ++ optItem 1 (match r.state with | .lockedOut x => some x.code | _ => none)

/-- The items of BANK STATUS (R36). -/
def bankStatusItems (p : Plant) : List Byte :=
  listItem (BankId.all.map (bankItems p)) ++ listItem (CompId.all.map (compItems p))
    ++ u32 p.windowDemand ++ validItem 4 p.analogs.supPt.now

/-- A requester as a unit byte. -/
def Requester.byte : Requester → Nat
  | .disp d => d.byte
  | .comp c => c.byte

/-- The items of CHILLER STATUS (R54). DESIGN CHOICE (assumption 13): the stages and the dispensers in turn without a
count, and the off, band and stop timers in ms, 4 bytes each. -/
def chillerItems (p : Plant) : List Byte :=
  (StageId.all.flatMap fun x =>
      let r := p.stages.get x
      u8 r.state.code ++ optItem 1 (match r.state with | .fault f => some f.code | _ => none) ++ u32 r.offMs)
    ++ u8 p.band ++ optItem 1 (p.candidate.map fun c => c.1) ++ optItem 4 (p.candidate.map fun c => c.2)
    ++ validItem 1 (p.analogs.ambTt.now.map ambientBand) ++ u8 (stageCapacity p.band) ++ u8 p.capacity
    ++ listItem (p.grants.map fun r => u8 r.who.byte ++ u8 r.cls.code ++ u8 r.demand ++ yesNo r.granted)
    ++ (Disp.all.flatMap fun d =>
      yesNo (p.armed d) ++ optItem 4 (p.armT.get d) ++ optItem 4 (p.keepT.get d) ++ yesNo (p.reports.get d)
        ++ u8 (p.measured.get d).code)
    ++ u32 p.stopT.ms ++ u8 p.cfg.keepCold

/-! ## Hoses -/

/-- The tank data of a frame in the session's part of the record. -/
def tankItems : Option VehFrame → List Byte
  | some f => u32 f.pressure ++ u16 f.temperature ++ u16 f.volume
  | none => u32 0 ++ u16 0 ++ u16 0

/-- The last valid frame in the receiver's part of the record. -/
def frameItems : Option VehFrame → List Byte
  | some f => u32 f.vehicleId ++ u8 f.nwp ++ u16 f.volume ++ u32 f.pressure ++ u16 f.temperature ++ u8 f.command
  | none => beBytes 14 0

/-- The pause causes present as a set. -/
def Pauses.code (x : Pauses) : Nat :=
  presence 0 [x.hold.isSome, x.vehicleHalt.isSome, x.supply.isSome, x.bankSwitch.isSome, x.corridorHigh.isSome]

/-- The ramp fields of the record (R106): 59 bytes, zeros where the hose is not the record's hose. -/
def rampItems : Option RampRec → List Byte
  | some r =>
    u8 r.band ++ u8 r.cls.code ++ u8 r.comm.code ++ u8 (bit r.running 0 + bit r.lowHold 1)
      ++ u16 r.tableRate ++ u16 r.rate
      ++ u32 r.endP ++ u32 r.anchor ++ u32 r.clockMs ++ u32 (if r.running then r.aim else r.target)
      ++ orZero 4 r.pauses.hold ++ orZero 4 r.pauses.vehicleHalt ++ orZero 4 r.pauses.supply
      ++ orZero 4 r.pauses.bankSwitch ++ orZero 4 r.pauses.corridorHigh
      ++ u32 r.lowMs ++ u32 r.fillMs
      ++ u8 r.derate ++ u16 r.corrUp ++ u16 r.corrLow ++ u16 r.limitS
  | none => beBytes 59 0

/-- The ramp record of a hose, where it is its dispenser's record's hose. -/
def Plant.rampOf (p : Plant) (h : Hose) : Option RampRec :=
  (p.disps.get h.disp).ramp.filter fun r => r.hose = h

/-- The presence word of the hose status record. The pause causes are sent for the record's hose, also after its fill has
ended (R85, R94, R106; assumption 32). -/
def hosePresence (p : Plant) (h : Hose) : Nat :=
  let x := p.sessions.get h
  let v := p.receivers.get h
  presence 0
    [(p.analogs.pt.get h).now.isSome, x.wait.isSome, x.queuePos.isSome, (p.rampOf h).isSome, x.endReason.isSome
    , x.comm.isSome, x.cred.isSome, x.ticket.isSome, x.order.isSome, x.price.isSome, x.hold.isSome, x.massLimit.isSome
    , x.targetSoc.isSome, x.bank.isSome, x.initialP.isSome, x.finalP.isSome, x.startSoc.isSome, x.lastSoc.isSome
    , x.startFrame.isSome, x.socFrame.isSome, (p.rampOf h).isSome, v.frame.isSome, v.lastRejection.isSome
    , (match v.frame with | some f => decide (f.vehicleId ≠ 0) | none => false)]

/-- The level byte of the hose status record. -/
def switchBits (p : Plant) (h : Hose) : Nat :=
  let unknown := fun x => (p.switches.get x).level.isNone
  presence 0
    [p.asserted (.hol h), p.asserted (.cpl h), p.asserted (.brk h), false, unknown (.hol h), unknown (.cpl h)
    , unknown (.brk h)]

/-- The hose status record of a fitted hose (R83, R106, R118, R193). -/
def hoseItems (p : Plant) (h : Hose) : List Byte :=
  let x := p.sessions.get h
  let c := p.disps.get h.disp
  let v := p.receivers.get h
  let r := p.rampOf h
  u8 h.byte ++ u8 (gradeCode (p.grade.get h)) ++ u8 c.park.code ++ yesNo c.depotMode
    ++ u8 (switchBits p h) ++ u8 (p.measured.get h.disp).code ++ u32 (hosePresence p h)
    ++ orZero 4 (p.analogs.pt.get h).now
    ++ u8 x.state.code ++ orZero 1 (x.wait.map WaitReason.code) ++ orZero 1 (x.queuePos.map QueuePos.code)
    ++ u8 (match r with | some q => q.pauses.code | none => 0)
    ++ orZero 1 (x.endReason.map EndReason.place) ++ orZero 1 (x.comm.map CommMode.code)
    ++ orZero 2 x.cred ++ orZero 4 x.ticket ++ orZero 4 (x.order.map fun o => o.1) ++ orZero 2 (x.order.map fun o => o.2)
    ++ orZero 4 x.price ++ orZero 4 x.periodId ++ orZero 4 x.hold ++ orZero 4 x.massLimit
    ++ orZero 2 x.targetSoc ++ orZero 1 (x.bank.map BankId.number)
    ++ u8 (presence 0 [p.activeHose h.disp = some h && p.fillGranted h.disp, x.entered, x.tainted])
    ++ orZero 4 x.initialP ++ orZero 4 x.finalP ++ orZero 2 x.startSoc ++ orZero 2 x.lastSoc
    ++ tankItems x.startFrame ++ tankItems x.socFrame
    ++ u32 x.verified ++ u32 x.unverified
    ++ u32 x.coupling.ms ++ u32 x.supplyWait.ms ++ u32 x.pulse.ms ++ u32 x.settle.ms ++ u32 x.precoolWait.ms
    ++ u32 x.afterflow.ms
    ++ rampItems r
    ++ u8 v.state.code ++ orZero 1 (v.lastRejection.map Rejection.code) ++ u8 v.invalidRun
    ++ u16 v.validCount ++ u16 v.invalidCount ++ u32 v.ageMs ++ frameItems v.frame

/-- The absent record of an ABSENT hose (R193). -/
def absentItems (h : Hose) : List Byte := u8 h.byte ++ u8 (gradeCode none) ++ beBytes 194 0

/-! ## Money -/

/-- The ticket record of 88 bytes (R193). -/
def ticketItems (t : FinalTicket) : List Byte :=
  let b := t.base
  let e := t.fin
  u32 b.number ++ u8 b.hose.byte ++ u8 (gradeCode (some b.grade)) ++ u16 b.cred ++ u8 b.kind.code
    ++ u8 (presence 0 [e.tainted, e.discrepancy, b.kind = .service])
    ++ u16 (presence 0
      [b.account.isSome, b.bus.isSome, e.comm.isSome, e.startSoc.isSome, e.endSoc.isSome, e.estimate.isSome
      , e.initialP.isSome, e.finalP.isSome, e.classStart.isSome, e.classEnd.isSome, e.batch.isSome])
    ++ orZero 4 b.account ++ orZero 4 b.bus ++ b.start.item ++ e.time.item
    ++ u32 b.periodId ++ u32 b.price ++ u32 b.hold ++ u32 e.verified ++ u32 e.unverified
    ++ u32 e.amount ++ u32 e.covered ++ u32 e.shortfall
    ++ u8 e.reason.place ++ orZero 1 (e.comm.map CommMode.code) ++ orZero 2 e.startSoc ++ orZero 2 e.endSoc
    ++ orZero 4 e.estimate ++ orZero 4 e.initialP ++ orZero 4 e.finalP
    ++ orZero 1 (e.classStart.map PrecoolClass.code) ++ orZero 1 (e.classEnd.map PrecoolClass.code)
    ++ orZero 4 e.batch

/-- Twelve places of ticket numbers, the unused ones 0. -/
def ticketPlacesItem : Nat → List Nat → List Byte
  | 0, _ => []
  | n + 1, [] => u32 0 ++ ticketPlacesItem n []
  | n + 1, t :: ts => u32 t ++ ticketPlacesItem n ts

/-- The batch record of 89 bytes, of a closed batch (R193). -/
def batchItems (c : ClosedBatch) : List Byte :=
  let b := c.batch
  u32 b.number ++ u8 1 ++ u8 c.cause.code ++ u32 b.account ++ u8 (gradeCode (some b.grade)) ++ u8 b.tickets.length
    ++ u32 b.periodId ++ u32 b.price ++ u32 b.mass ++ u32 b.amount ++ b.opened.item ++ c.closed.item
    ++ u8 b.limitMin ++ ticketPlacesItem Config.batchTickets b.tickets

/-- The items of READ TICKETS for the tickets it returns. -/
def ticketsItems (o : Office) (ts : List FinalTicket) : List Byte :=
  u16 o.openTickets.length ++ u16 o.finalised.length ++ u8 ts.length ++ ts.flatMap ticketItems

/-- The items of READ BATCHES for the batches it returns. -/
def batchesItems (o : Office) (bs : List ClosedBatch) : List Byte :=
  u8 o.openBatches.length ++ u8 o.closedBatches.length
    ++ u8 (Config.batchPlaces - (o.openBatches.length + o.closedBatches.length)) ++ u8 bs.length
    ++ bs.flatMap batchItems

/-- The items of a credential entry (R145): an EMPTY entry is state EMPTY and zeros. -/
def credItems : Option Cred → List Byte
  | none => beBytes 49 0
  | some c =>
    u8 c.state.code ++ u16 c.issuer ++ u64 c.token ++ u8 c.kind.code ++ u8 (presence 0 [c.allows70, c.allows35])
      ++ u8 c.priceClass ++ optItem 4 c.account ++ optItem 4 c.massLimit ++ optItem 4 c.amountCap
      ++ optItem 2 c.expiryDay ++ uMoney c.loaded ++ uMoney c.remaining ++ uMoney c.openHolds ++ uMoney c.consumed
      ++ u8 c.openCount

/-- The hoses whose sessions hold an open fill of an entry, in hose order (R145). -/
def openHoses (p : Plant) (i : Nat) : List Hose :=
  Hose.all.filter fun h => (p.sessState h).authorisedNow && (p.sessions.get h).cred = some i

/-- The fields of an order as they are sent (R120, R123). -/
def orderFields (r : Order) : List Byte :=
  u32 r.busId ++ u16 r.credIndex ++ u16 r.targetSoc ++ u32 r.expectedMass ++ u8 (dispSetCode r.mask)
    ++ optClock r.deadline

/-- Orders with their positions, counted from a first. -/
def numbered : Nat → List Order → List (List Byte)
  | _, [] => []
  | n, r :: rs => (u8 n ++ orderFields r) :: numbered (n + 1) rs

/-- The items of READ QUEUE (R123). DESIGN CHOICE (assumption 33): the depot reports in turn without a count, and the
bindings in hose order. -/
def queueItems (s : State) (start : Nat) : List Byte :=
  let o := s.office
  let bound := Hose.all.filterMap fun h =>
    (o.bindings.get h).map fun b => orderFields b.order ++ u8 h.byte ++ u32 b.ticket
  u8 o.queue.length ++ u32 o.windowDemand ++ (Disp.all.flatMap fun d => yesNo (o.report d))
    ++ listItem (numbered start ((o.queue.drop (start - 1)).take 16)) ++ listItem bound

/-- The items of a tariff table (R192): the periods as a list. -/
def pricesItem (x : Prices) : List Byte := u32 x.p0 ++ u32 x.p1 ++ u32 x.p2 ++ u32 x.p3

/-- The tariff table behind its marker (R192). -/
def tariffItems : Option (List Period) → List Byte
  | none => u8 0
  | some xs => u8 1 ++ listItem (xs.map fun x => u16 x.start ++ pricesItem x.h70 ++ pricesItem x.h35)

/-! ## Points (R175) -/

/-- The items of an output point. Its timers stand in ms: the model's choice (assumption 14). -/
def outItems (p : Plant) (x : OutPoint) : List Byte :=
  let r := p.outs.get x
  let wide := x.isSetpoint
  let own := r.owner (p.maint x)
  optOutVal wide r.safety ++ optOutVal wide r.function ++ optOutVal wide r.manual ++ u8 own.code
    ++ r.commanded.item ++ (failSafe x).item ++ optOutVal wide r.observed ++ u8 r.readback.code
    ++ u32 r.travelMs ++ u32 r.travelLimit
    ++ optOutVal wide (if own = .manual then none else r.manual)
    ++ (p.unitMaint x).flatMap yesNo

/-- The items of a switch or level point. A level UNKNOWN is an absent optional item: the model's choice (assumption 14). -/
def switchItems (r : SwitchRec) : List Byte :=
  optItem 1 r.level ++ optItem 1 r.candidate ++ u32 r.debounceMs ++ u32 r.debounceTime ++ u8 r.edge.code
    ++ yesNo r.flag ++ u8 r.count

/-- The items of a point's record (R175). -/
def pointItems (p : Plant) : Point → List Byte
  | .out x => outItems p x
  | .switch x => switchItems (p.switches.get x)
  | .analog x =>
    let r := p.analogs.get x
    optItem (x.width) r.value ++ u8 (if r.valid then 0 else 1) ++ u32 r.ageMs
  | .meter d =>
    let r := p.meters.get d
    (match r.last with
      | some m => u8 1 ++ u32 m.1 ++ u8 (if m.2 then 1 else 0)
      | none => u8 0 ++ u32 0 ++ u8 0) ++ u32 r.ageMs

end Sys2Proof.Machine
end

