-- ==== Sys2Proof/Machine/Answers.lean ====
section
/-! DEFINITION. How a request is answered (R187, R189): the outcome of an owning block, and the reply that joins the reply
queue. -/

namespace Sys2Proof.Machine

/-- What an owning block answers: a refusal; the items of a request that reads, with the state as it is; a taken request
that changes records of the office alone; or a taken request whose event is then settled in every block. -/
inductive Answer
  | refused (c : Status)
  | read (items : List Byte)
  | kept (st : Status) (items : List Byte) (s : State)
  | taken (st : Status) (items : List Byte) (s : State)

/-- A reply joins the tail of the reply queue, with the notices-lost flag as it stands (R187, R189). -/
def reply (kind : Nat) (tag : Byte) (st : Status) (items : List Byte) (s : State) : State :=
  { s with office :=
      { s.office with replies := s.office.replies ++ [⟨kind, tag, st, s.plant.lost, items⟩] } }

/-- One more, held at 65,535 (R186). -/
def bump (n : Nat) : Nat := min 65535 (n + 1)

/-- A request discarded with no reply (R187 step 1). -/
def overrun (s : State) : State :=
  s.onOffice fun o => { o with counts := { o.counts with overrun := bump o.counts.overrun } }

/-- A request answered (R187): discarded where 8 replies wait, else acted on and replied to. -/
def respond (kind : Nat) (tag : Byte) (act : State → Answer) (s : State) : State :=
  if s.office.replies.length < Config.replyPlaces then
    match act s with
    | .refused c => reply kind tag c [] s
    | .read items => reply kind tag .ok items s
    | .kept st items t => reply kind tag st items t
    | .taken st items t => reply kind tag st items (settle t)
  else overrun s

/-- The status of a request some of whose values were clamped. -/
def adjusted (b : Bool) : Status := if b then .okAdjusted else .ok

end Sys2Proof.Machine
end

