-- ==== Sys2Proof/Machine/MoneyActs.lean ====
section
/-! DEFINITION. What the requests of the clock, the credentials, the depot queue, the tariff, the tickets and the batches do
(07, 08, 09), each as the answer of its owning block. -/

namespace Sys2Proof.Machine

/-- SET CLOCK (R148). -/
def setClockAct (day second : Nat) (s : State) : Answer :=
  if 65535 < day ∨ 86399 < second then .refused .badValue
  else .taken .ok [] (setClock ⟨day, second⟩ s)

/-! ## Credentials (R135 to R138, R145) -/

/-- The most money an entry can be given. -/
def moneyTop : Nat := 100000000

/-- A clamped value that may be absent. -/
def clampOpt (top : Nat) (x : Option Nat) : Option Nat := x.map fun v => min v top

/-- The entry LOAD CREDENTIAL loads, where its description passes the checks of R135 item 1 on its fields. -/
def loadedCred (x : CredItems) (allowance : Nat) : Option Cred :=
  match credStateOf x.state, credKindOf x.kind with
  | some st, some k =>
    if x.grades = 0 ∨ 3 < x.grades ∨ 3 < x.priceClass ∨ (k = .fleet ∧ x.account = none) then none
    else
      let a := min allowance moneyTop
      some
        { state := st, issuer := x.issuer, token := x.token, kind := k
          allows70 := x.grades.testBit 0, allows35 := x.grades.testBit 1, priceClass := x.priceClass
          account := if k = .fleet then x.account else none
          massLimit := clampOpt 200000 x.massLimit, amountCap := clampOpt moneyTop x.amountCap
          expiryDay := x.expiryDay
          loaded := a, remaining := a, openHolds := 0, consumed := 0, openCount := 0 }
  | _, _ => none

/-- Whether an entry at another index holds a key (R135 item 3). -/
def keyElsewhere (i : Nat) (c : Cred) (cs : List (Nat × Cred)) : Bool :=
  cs.any fun e => e.1 ≠ i && e.2.issuer = c.issuer && e.2.token = c.token

/-- Whether the entry at an index has an open fill. -/
def hasOpenFill (i : Nat) (cs : List (Nat × Cred)) : Bool :=
  match credAt i cs with
  | some c => 0 < c.openCount
  | none => false

/-- LOAD CREDENTIAL (R135). -/
def loadCredAct (index : Nat) (x : CredItems) (allowance : Nat) (s : State) : Answer :=
  if Config.credentialEntries ≤ index then .refused .badValue
  else match loadedCred x allowance with
    | none => .refused .badValue
    | some c =>
      if hasOpenFill index s.office.creds then .refused .busy
      else if keyElsewhere index c s.office.creds then .refused .duplicate
      else
        let changed := moneyTop < allowance || c.massLimit ≠ x.massLimit || c.amountCap ≠ x.amountCap
        .kept (adjusted changed)
          (if changed then uMoney c.loaded ++ optItem 4 c.massLimit ++ optItem 4 c.amountCap else [])
          (s.onOffice fun o => { o with creds := credPut index c o.creds })

/-- The entry a request names, with the refusals of an index outside the table and of an EMPTY entry. -/
def withCred (index : Nat) (s : State) (f : Cred → Answer) : Answer :=
  if Config.credentialEntries ≤ index then .refused .badValue
  else match credAt index s.office.creds with
    | none => .refused .notFound
    | some c => f c

/-- The entry at an index replaced. -/
def putCred (index : Nat) (c : Cred) (s : State) : State :=
  s.onOffice fun o => { o with creds := credPut index c o.creds }

/-- ADD ALLOWANCE (R136). -/
def addAct (index amount : Nat) (s : State) : Answer :=
  withCred index s fun c =>
    let used := min amount ((moneyTop : Int) - c.loaded).toNat
    .kept (adjusted (used ≠ amount)) (if used = amount then [] else u32 used)
      (putCred index { c with loaded := c.loaded + used, remaining := c.remaining + used } s)

/-- SUSPEND (R137). -/
def suspendAct (index : Nat) (s : State) : Answer :=
  withCred index s fun c => .kept .ok [] (putCred index { c with state := .suspended } s)

/-- RESUME (R137). -/
def resumeAct (index : Nat) (s : State) : Answer :=
  withCred index s fun c => .kept .ok [] (putCred index { c with state := .active } s)

/-- DELETE (R138). -/
def deleteAct (index : Nat) (s : State) : Answer :=
  withCred index s fun c =>
    if 0 < c.openCount then .refused .busy
    else .kept .ok [] (s.onOffice fun o => { o with creds := credDrop index o.creds })

/-- READ CREDENTIAL (R145). The reply of an EMPTY entry carries a list of no hoses too: the model's choice (assumption 15). -/
def readCredAct (index : Nat) (s : State) : Answer :=
  if Config.credentialEntries ≤ index then .refused .badValue
  else
    .read (credItems (credAt index s.office.creds) ++
      listItem ((openHoses s.plant index).map fun h => u8 h.byte))

/-! ## The depot queue (R120 to R123) -/

/-- The order a request carries with its values used, where it passes the checks of R120 item 1 on its own fields. -/
def orderOf (x : OrderItems) (clock : Option Clock) : Option Order :=
  let late := match x.deadline, clock with
    | some t, some c => c.passed ⟨t.1, t.2⟩
    | _, _ => false
  let badSecond := match x.deadline with
    | some t => decide (86399 < t.2)
    | none => false
  match maskOf x.mask with
  | none => none
  | some m =>
    if x.busId = 0 ∨ Config.credentialEntries ≤ x.credIndex ∨ x.mask = 0 ∨ badSecond = true ∨ late = true then none
    else some
      { busId := x.busId, credIndex := x.credIndex, targetSoc := clamp 500 1000 x.targetSoc
        expectedMass := min x.expectedMass 200000, mask := m, deadline := x.deadline.map fun t => ⟨t.1, t.2⟩ }

/-- The checks of R120: the order to be queued, or the first refusal. -/
def orderCheck (x : OrderItems) (s : State) : Except Status Order :=
  match orderOf x s.office.clock with
  | none => .error .badValue
  | some r =>
    match credAt r.credIndex s.office.creds with
    | none => .error .notFound
    | some c =>
      if c.kind ≠ .fleet then .error .badValue
      else if (findOrder r.busId s.office.queue).isSome || s.office.inService r.busId then .error .duplicate
      else if Config.orderPlaces ≤ s.office.queue.length then .error .full
      else .ok r

/-- An order queued behind the first k. -/
def queueOrder (k : Nat) (r : Order) (s : State) : State :=
  passWindow (s.onOffice fun o => { o with queue := insertOrder k r o.queue })

/-- APPEND ORDER (R120). -/
def appendAct (x : OrderItems) (s : State) : Answer :=
  match orderCheck x s with
  | .error c => .refused c
  | .ok r =>
    let n := s.office.queue.length
    let changed := r.targetSoc ≠ x.targetSoc || r.expectedMass ≠ x.expectedMass
    .taken (adjusted changed) ((if changed then u16 r.targetSoc ++ u32 r.expectedMass else []) ++ u8 (n + 1))
      (queueOrder n r s)

/-- SPLICE ORDER (R121). OK_ADJUSTED carries the k used in one byte between the mass and the position, clamped or not: the
model's choice (assumption 12), as is the position in a plain OK. -/
def spliceAct (x : OrderItems) (k : Nat) (s : State) : Answer :=
  match orderCheck x s with
  | .error c => .refused c
  | .ok r =>
    let used := min k s.office.queue.length
    let changed := r.targetSoc ≠ x.targetSoc || r.expectedMass ≠ x.expectedMass || used ≠ k
    .taken (adjusted changed)
      ((if changed then u16 r.targetSoc ++ u32 r.expectedMass ++ u8 used else []) ++ u8 (used + 1))
      (queueOrder used r s)

/-- WITHDRAW ORDER (R122). -/
def withdrawAct (bus : Nat) (s : State) : Answer :=
  if (findOrder bus s.office.queue).isSome then
    .taken .ok [] (passWindow (s.onOffice fun o => { o with queue := dropOrder bus o.queue }))
  else .refused (if s.office.inService bus then .busy else .notFound)

/-- READ QUEUE (R123). -/
def readQueueAct (start : Nat) (s : State) : Answer :=
  if start < 1 ∨ Config.orderPlaces < start then .refused .badValue else .read (queueItems s start)

/-! ## The tariff (R149) -/

/-- A price as it is used. -/
def usedPrice (p : Nat) : Nat := min p 999999

/-- A period as it is used. -/
def periodOf (x : PeriodItems) : Period :=
  ⟨x.start, ⟨usedPrice x.p0, usedPrice x.p1, usedPrice x.p2, usedPrice x.p3⟩,
    ⟨usedPrice x.p4, usedPrice x.p5, usedPrice x.p6, usedPrice x.p7⟩⟩

/-- Whether every price of a period is used as given. -/
def PeriodItems.asGiven (x : PeriodItems) : Bool :=
  [x.p0, x.p1, x.p2, x.p3, x.p4, x.p5, x.p6, x.p7].all fun p => p ≤ 999999

/-- Whether the start minutes are strictly ascending. -/
def ascending : List PeriodItems → Bool
  | [] => true
  | [_] => true
  | x :: y :: xs => x.start < y.start && ascending (y :: xs)

/-- Whether a table passes the checks of R149. -/
def tableOk (xs : List PeriodItems) : Bool :=
  match xs with
  | [] => false
  | x :: _ => decide (xs.length ≤ 6) && x.start = 0 && ascending xs

/-- LOAD TARIFF (R149). -/
def tariffAct (xs : List PeriodItems) (s : State) : Answer :=
  if tableOk xs then
    let ys := xs.map periodOf
    let given := xs.all PeriodItems.asGiven
    .taken (adjusted (!given)) (if given then [] else ys.flatMap fun y => pricesItem y.h70 ++ pricesItem y.h35)
      (loadTariff ys s)
  else .refused .badValue

/-! ## Tickets and batches (R155, R156, R161, R162) -/

/-- The part of a list that follows the first entry that passes a test, or none where none does. -/
def afterFirst (f : α → Bool) : List α → Option (List α)
  | [] => none
  | x :: xs => if f x then some xs else afterFirst f xs

/-- READ TICKETS (R155). -/
def readTicketsAct (start : Nat) (s : State) : Answer :=
  match if start = 0 then some s.office.finalised
      else afterFirst (fun t => t.base.number = start) s.office.finalised with
  | none => .refused .notFound
  | some ts => .read (ticketsItems s.office (ts.take 8))

/-- RELEASE TICKETS (R156). -/
def releaseTicketsAct (number : Nat) (s : State) : Answer :=
  match afterFirst (fun t => t.base.number = number) s.office.finalised with
  | none => .refused .notFound
  | some ts =>
    .kept .ok (u16 (s.office.finalised.length - ts.length)) (s.onOffice fun o => { o with finalised := ts })

/-- READ BATCHES (R162). -/
def readBatchesAct (start : Nat) (s : State) : Answer :=
  match if start = 0 then some s.office.closedBatches
      else afterFirst (fun b => b.batch.number = start) s.office.closedBatches with
  | none => .refused .notFound
  | some bs => .read (batchesItems s.office (bs.take 8))

/-- RELEASE BATCHES (R162). -/
def releaseBatchesAct (number : Nat) (s : State) : Answer :=
  match afterFirst (fun b => b.batch.number = number) s.office.closedBatches with
  | none => .refused .notFound
  | some bs =>
    .kept .ok (u8 (s.office.closedBatches.length - bs.length)) (s.onOffice fun o => { o with closedBatches := bs })

/-- FLUSH BATCHES (R161). -/
def flushAct (s : State) : Answer :=
  .kept .ok (u8 s.office.openBatches.length) (closeWith .flush (fun _ => true) s)

end Sys2Proof.Machine
end

