-- ==== Sys2Proof/Machine/Settings.lean ====
section
/-! DEFINITION. CONFIGURE and READ CONFIGURATION (R191, R192), with what each parameter's owning rule does with a value. -/

namespace Sys2Proof.Machine

/-- A parameter with its target. -/
inductive Setting
  | grade (h : Hose) | derate (h : Hose) | depotMode (d : Disp) | keepCold | corrUpper | corrLower | margin
  | limit70 | limit35 | batchTimer | batchLimit | tier (k : BankId) | volume (k : BankId) | maxP (k : BankId)
  | refill (k : BankId) | floorP (k : BankId) | travel (o : OutPoint) | debounce (x : SwitchPoint)
  | edge (x : SwitchPoint)
deriving DecidableEq, Repr

/-- A parameter of the station: the unit 0xF0 and the point byte 0. -/
def stationSetting (unit point : Nat) (x : Setting) : Option Setting :=
  if unit = stationByte ∧ point = 0 then some x else none

/-- A parameter of a bank. -/
def bankSetting (unit point : Nat) (f : BankId → Setting) : Option Setting :=
  if point = 0 then (unitBy BankId.byte BankId.all unit).map f else none

/-- A parameter of an input point. -/
def inputSetting (unit point : Nat) (f : SwitchPoint → Setting) : Option Setting :=
  match pointOf unit point with
  | some (.switch x) => some (f x)
  | _ => none

/-- The parameter an id names with its target, or none where the id is unlisted or the target of a kind it does not take
(R191 item 1). -/
def settingOf (id unit point : Nat) : Option Setting :=
  match id with
  | 0x01 => if point = 0 then (hoseOf unit).map .grade else none
  | 0x02 => if point = 0 then (hoseOf unit).map .derate else none
  | 0x03 => if point = 0 then (unitBy Disp.byte Disp.all unit).map .depotMode else none
  | 0x04 => stationSetting unit point .keepCold
  | 0x05 => stationSetting unit point .corrUpper
  | 0x06 => stationSetting unit point .corrLower
  | 0x07 => stationSetting unit point .margin
  | 0x08 => stationSetting unit point .limit70
  | 0x09 => stationSetting unit point .limit35
  | 0x0A => stationSetting unit point .batchTimer
  | 0x0B => stationSetting unit point .batchLimit
  | 0x10 => bankSetting unit point .tier
  | 0x11 => bankSetting unit point .volume
  | 0x12 => bankSetting unit point .maxP
  | 0x13 => bankSetting unit point .refill
  | 0x14 => bankSetting unit point .floorP
  | 0x18 => match pointOf unit point with | some (.out o) => some (.travel o) | _ => none
  | 0x19 => inputSetting unit point .debounce
  | 0x1A => inputSetting unit point .edge
  | _ => none

/-- The hose of a parameter whose target is a point of a hose (R191 item 2). -/
def Setting.pointHose : Setting → Option Hose
  | .travel o => (Point.out o).hose
  | .debounce x => x.hose
  | .edge x => x.hose
  | _ => none

/-- Whether a value lies in the list of an enumerated parameter (R191 item 1). -/
def Setting.listed (x : Setting) (v : Nat) : Bool :=
  match x with
  | .grade _ => (gradeOf v).isSome
  | .depotMode _ => v < 2
  | .tier _ => (tierOf v).isSome
  | .edge _ => (edgeOf v).isSome
  | _ => true

/-- Whether a parameter is refused with BUSY (R191 item 3). -/
def Plant.settingBusy (p : Plant) : Setting → Bool
  | .grade h => p.sessState h ≠ .idle
  | .tier k => !(p.banks.get k).causes.any
  | _ => false

/-- The range of a numeric parameter (R13, R191); an enumerated one is not clamped. -/
def Plant.settingRange (p : Plant) : Setting → Option (Nat × Nat)
  | .derate _ => some (50, 100)
  | .keepCold => some (0, 30)
  | .corrUpper => some (2000, 15000)
  | .corrLower => some (2000, 15000)
  | .margin => some (0, 200)
  | .limit70 => some (60, 3600)
  | .limit35 => some (60, 3600)
  | .batchTimer => some (5, 240)
  | .batchLimit => some (1000, 10000000)
  | .volume _ => some (50, 20000)
  | .maxP _ => some (10000, 98000)
  | .refill k => some (0, (p.banks.get k).maxP)
  | .floorP k => some (0, (p.banks.get k).refill)
  | .travel _ => some (500, 10000)
  | .debounce _ => some (10, 1000)
  | .grade _ => none
  | .depotMode _ => none
  | .tier _ => none
  | .edge _ => none

/-- The value used: clamped to the range of a numeric parameter. -/
def Plant.settingUsed (p : Plant) (x : Setting) (v : Nat) : Nat :=
  match p.settingRange x with
  | some r => clamp r.1 r.2 v
  | none => v

/-! ## What a taken value does -/

/-- A hose fitted (R164, R168): its switches and pressure are judged afresh, and its nX.HV travels from zero. Event flags,
edge counts and the observed value stand as they were, and the valve travels toward its commanded value, which a MANUAL
claim kept from before can make another than the fail-safe one of R168: DESIGN CHOICE (assumption 23). -/
def fitHose (h : Hose) (p : Plant) : Plant :=
  let fresh := fun (r : SwitchRec) => { r with level := none, candidate := none, debounceMs := 0 }
  let p := p.setSwitch (.hol h) (fresh (p.switches.get (.hol h)))
  let p := p.setSwitch (.cpl h) (fresh (p.switches.get (.cpl h)))
  let p := p.setSwitch (.brk h) (fresh (p.switches.get (.brk h)))
  let p := p.setAnalog (.pt h) .powerOn
  modOut (.hv h) (fun r => { r with readback := .travelling, travelMs := 0 }) p

/-- A hose's grade set (R84). -/
def setGrade (h : Hose) (g : Option Grade) (p : Plant) : Plant :=
  let q := { p with grade := p.grade.set h g }
  if p.present h then q else if g.isSome then fitHose h q else q

/-- A bank's configuration written, with what lies above lowered with it (R13): the refill-start pressure to the max
pressure and the floor pressure to the refill-start pressure; the usable inventory is reckoned afresh. -/
def BankRec.lowered (b : BankRec) : BankRec :=
  let r := min b.refill b.maxP
  { b with refill := r, floorP := min b.floorP r }.reckoned

/-- A bank's max pressure set, with the overpressure test at once (R13, R16). DESIGN CHOICE (assumption 18): the test only
adds the cause, and while Bk.PT is INVALID there is none. -/
def setMaxP (k : BankId) (v : Nat) (p : Plant) : Plant :=
  let p := putBank k { p.banks.get k with maxP := v }.lowered p
  match (p.banks.get k).pressure with
  | some q => if v + 2000 < q then isolate k .overpressure p else p
  | none => p

/-- A parameter takes a value in the plant. -/
def Setting.plant (x : Setting) (v : Nat) (p : Plant) : Plant :=
  match x with
  | .grade h => setGrade h ((gradeOf v).getD none) p
  | .derate h => { p with derate := p.derate.set h v }
  | .depotMode d => modDisp d (fun c => { c with depotMode := v ≠ 0 }) p
  | .keepCold => { p with cfg := { p.cfg with keepCold := v } }
  | .corrUpper => { p with cfg := { p.cfg with corrUp := v } }
  | .corrLower => { p with cfg := { p.cfg with corrLow := v } }
  | .margin => { p with cfg := { p.cfg with margin := v } }
  | .limit70 => { p with cfg := { p.cfg with limit70 := v } }
  | .limit35 => { p with cfg := { p.cfg with limit35 := v } }
  | .batchTimer => p
  | .batchLimit => p
  | .tier k => putBank k { p.banks.get k with tier := (tierOf v).getD .low } p
  | .volume k => putBank k { p.banks.get k with volume := v }.lowered p
  | .maxP k => setMaxP k v p
  | .refill k => putBank k { p.banks.get k with refill := v }.lowered p
  | .floorP k => putBank k { p.banks.get k with floorP := v }.lowered p
  | .travel o => modOut o (fun r => { r with travelLimit := v }) p
  | .debounce y => p.setSwitch y { p.switches.get y with debounceTime := v }
  | .edge y => p.setSwitch y { p.switches.get y with edge := (edgeOf v).getD .none }

/-- A parameter takes a value in the office. -/
def Setting.office (x : Setting) (v : Nat) (o : Office) : Office :=
  match x with
  | .batchTimer => { o with batchTimer := v }
  | .batchLimit => { o with batchLimit := v }
  | _ => o

/-- The value of a parameter in force (R192). -/
def Setting.value (x : Setting) (s : State) : Nat :=
  let p := s.plant
  match x with
  | .grade h => gradeCode (p.grade.get h)
  | .derate h => p.derate.get h
  | .depotMode d => if (p.disps.get d).depotMode then 1 else 0
  | .keepCold => p.cfg.keepCold
  | .corrUpper => p.cfg.corrUp
  | .corrLower => p.cfg.corrLow
  | .margin => p.cfg.margin
  | .limit70 => p.cfg.limit70
  | .limit35 => p.cfg.limit35
  | .batchTimer => s.office.batchTimer
  | .batchLimit => s.office.batchLimit
  | .tier k => (p.banks.get k).tier.code
  | .volume k => (p.banks.get k).volume
  | .maxP k => (p.banks.get k).maxP
  | .refill k => (p.banks.get k).refill
  | .floorP k => (p.banks.get k).floorP
  | .travel o => (p.outs.get o).travelLimit
  | .debounce y => (p.switches.get y).debounceTime
  | .edge y => (p.switches.get y).edge.code

/-- The hose of a parameter's point is ABSENT (R191 item 2). -/
def Plant.settingAbsent (p : Plant) (x : Setting) : Bool :=
  match x.pointHose with
  | some h => !p.present h
  | none => false

/-- CONFIGURE (R191). -/
def configureAct (id unit point value : Nat) (s : State) : Answer :=
  match settingOf id unit point with
  | none => .refused .badValue
  | some x =>
    if !x.listed value then .refused .badValue
    else if s.plant.settingAbsent x then .refused .notPresent
    else if s.plant.settingBusy x then .refused .busy
    else
      let used := s.plant.settingUsed x value
      .taken (adjusted (used ≠ value)) (if used = value then [] else u32 used)
        { s with plant := x.plant used s.plant, office := x.office used s.office }

/-- READ CONFIGURATION (R192). DESIGN CHOICE (assumption 12): every value in 4 bytes. -/
def readConfigAct (id unit point : Nat) (s : State) : Answer :=
  if id = 0 ∧ unit = stationByte then .read (tariffItems s.office.tariff)
  else
    match settingOf id unit point with
    | none => .refused .badValue
    | some x => if s.plant.settingAbsent x then .refused .notPresent else .read (u32 (x.value s))

end Sys2Proof.Machine
end

