-- ==== Sys2Proof/Machine/StationActs.lean ====
section
/-! DEFINITION. What the requests of the station, the dispensers, the supply, the chiller and the points do (02, 03, 04, 10,
11), each as the answer of its owning block. -/

namespace Sys2Proof.Machine

/-! ## Station (R177 to R184) -/

/-- OPEN STATION (R177). -/
def openAct (s : State) : Answer :=
  if s.office.clock.isNone then .refused .clockUnset
  else if s.office.tariff.isNone then .refused .notConfigured
  else if s.plant.trip then .refused .wrongState
  else match s.plant.mode with
    | .closing => .refused .busy
    | .opened => .read []
    | .closed => .taken .ok [] (s.onPlant fun p => notify (.stationMode .opened none) { p with mode := .opened })

/-- CLOSE STATION (R178). -/
def closeAct (kind : Nat) (s : State) : Answer :=
  match closeKindOf kind with
  | none => .refused .badValue
  | some k =>
    if s.plant.mode ≠ .opened then .refused .wrongState
    else
      .taken .ok [] (everyHose (closeOrder k)
        (s.onPlant fun p => notify (.stationMode .closing (some k)) (p.atMode .closing (some k))))

/-- PARK (R180). -/
def parkAct (disp : Nat) (s : State) : Answer :=
  match dispOf disp with
  | none => .refused .badValue
  | some d =>
    if (s.plant.disps.get d).park = .active then
      .taken .ok [] (bothHoses d (closeOrder .finish)
        (s.onPlant fun p => stopIntervals d (modDisp d (fun c => { c with park := .parking }) p)))
    else .read []

/-- Whether the breakaway switch of a present hose of a dispenser shows the hose parted (R180). -/
def Plant.parted (p : Plant) (d : Disp) : Bool :=
  (p.present d.hoseA && p.asserted (.brk d.hoseA)) || (p.present d.hoseB && p.asserted (.brk d.hoseB))

/-- UNPARK (R180). BUSY comes before OK for an ACTIVE dispenser: the model's choice (assumption 21). -/
def unparkAct (disp : Nat) (s : State) : Answer :=
  match dispOf disp with
  | none => .refused .badValue
  | some d =>
    if s.plant.parted d then .refused .busy
    else if (s.plant.disps.get d).park = .active then .read []
    else .taken .ok [] (s.onPlant (modDisp d fun c => { c with park := .active }))

/-- SET HOLD (R181). -/
def setHoldAct (s : State) : Answer :=
  .taken .ok [] (refresh (s.onPlant fun p => { p with hostHold := true }))

/-- RELEASE HOLD (R181). -/
def releaseHoldAct (s : State) : Answer :=
  .taken .ok [] (refresh (s.onPlant fun p => { p with hostHold := false }))

/-- SET TRIP (R182). -/
def setTripAct (s : State) : Answer :=
  .taken .ok [] (refresh (s.onPlant fun p => { p with hostTrip := true }))

/-- RESET TRIP (R182). -/
def resetTripAct (s : State) : Answer :=
  if !s.plant.trip then .refused .wrongState
  else if s.plant.fieldTrip then .refused .busy
  else
    let s := s.onPlant fun p => { p with hostTrip := false }
    .taken .ok [] (setConditions s.plant.holdSource false s)

/-- RESTART (R183). -/
def restartAct (s : State) : Answer := .taken .ok [] (restartAll s)

/-! ## Dispensers (R47, R58, R64, R83) -/

/-- AUTHORISE HOSE (R58). -/
def authoriseAct (hose issuer token : Nat) (preset massLimit targetSoc : Option Nat) (s : State) : Answer :=
  match hoseOf hose with
  | none => .refused .badValue
  | some h =>
    let asked := targetSoc.getD 980
    let used := clamp 500 1000 asked
    let ask : AuthAsk := { key := some (issuer, token), order := none, preset, massLimit, targetSoc := used }
    match authCheck h ask s with
    | .error c => .refused c
    | .ok t =>
      .taken (adjusted (used ≠ asked))
        ((if used = asked then [] else u16 used) ++ u32 s.office.nextTicket ++ u32 t.hold) (authTake h ask t s)

/-- AUTHORISE BY ORDER (R130). -/
def authoriseOrderAct (bus hose : Nat) (s : State) : Answer :=
  match hoseOf hose with
  | none => .refused .badValue
  | some h =>
    match findOrder bus s.office.queue with
    | none => .refused (if s.office.inService bus then .busy else .notFound)
    | some r =>
      match authCheck h (orderAsk r.2) s with
      | .error c => .refused c
      | .ok t => .taken .ok (u32 s.office.nextTicket ++ u32 t.hold) (serveOrder h r.2 t s)

/-- STOP HOSE (R64). -/
def stopAct (hose : Nat) (s : State) : Answer :=
  match hoseOf hose with
  | none => .refused .badValue
  | some h =>
    if !s.plant.present h then .refused .notPresent
    else match s.plant.sessState h with
      | .idle | .lifted | .coupled => .refused .wrongState
      | .ending | .settled => .read []
      | _ => .taken .ok [] (endOrCancel h .hostStop .cancelled s)

/-- HOSE STATUS (R83). -/
def hoseStatusAct (hose : Nat) (s : State) : Answer :=
  match hoseOf hose with
  | none => .refused .badValue
  | some h => .read (if s.plant.present h then hoseItems s.plant h else absentItems h)

/-- ARM DISPENSER (R47). -/
def armAct (disp minutes : Nat) (s : State) : Answer :=
  match dispOf disp with
  | none => .refused .badValue
  | some d =>
    if !s.plant.dispPresent d then .refused .notPresent
    else if (s.plant.disps.get d).park ≠ .active then .refused .wrongState
    else
      let used := clamp 1 60 minutes
      .taken (adjusted (used ≠ minutes)) (if used = minutes then [] else u8 used)
        (s.onPlant fun p => { p with armT := p.armT.set d (some (used * 60000)) })

/-! ## Supply and chiller (R16, R17, R27, R32, R33, R36, R38, R54) -/

/-- BANK STATUS (R36). -/
def bankStatusAct (s : State) : Answer := .read (bankStatusItems s.plant)

/-- ISOLATE BANK (R16, R17). -/
def isolateAct (bank : Nat) (s : State) : Answer :=
  match bankOf bank with
  | none => .refused .badValue
  | some k => .taken .ok [] (s.onPlant (isolate k .host))

/-- RESTORE BANK (R17). -/
def restoreAct (bank : Nat) (s : State) : Answer :=
  match bankOf bank with
  | none => .refused .badValue
  | some k => if s.plant.trip then .refused .wrongState else .taken .ok [] (s.onPlant (unisolate k .host))

/-- COMPRESSOR with the action ENABLE (R27). -/
def enableAct (comp : Nat) (s : State) : Answer :=
  match compOf comp with
  | none => .refused .badValue
  | some c => .taken .ok [] (s.onPlant (enableComp c))

/-- COMPRESSOR with the action DISABLE (R32). -/
def disableAct (comp : Nat) (s : State) : Answer :=
  match compOf comp with
  | none => .refused .badValue
  | some c => .taken .ok [] (s.onPlant (disableComp c))

/-- Whether a compressor is LOCKED_OUT. -/
def CompState.isLocked : CompState → Bool
  | .lockedOut _ => true
  | _ => false

/-- COMPRESSOR with the action CLEAR (R33). -/
def clearCompAct (comp : Nat) (s : State) : Answer :=
  match compOf comp with
  | none => .refused .badValue
  | some c =>
    if !(s.plant.comps.get c).state.isLocked then .refused .wrongState
    else if s.plant.asserted (.compFlt c) then .refused .busy
    else .taken .ok [] (s.onPlant (compEnter c .stopped))

/-- CHILLER STATUS (R54). -/
def chillerStatusAct (s : State) : Answer := .read (chillerItems s.plant)

/-- CLEAR STAGE (R38). BUSY comes before WRONG_STATE: the model's choice (assumption 21). DESIGN CHOICE (assumption 26):
STAGE_STATE before CONDITION. -/
def clearStageAct (stage : Nat) (s : State) : Answer :=
  match stageOf stage with
  | none => .refused .badValue
  | some x =>
    if s.plant.asserted (.stageFlt x) then .refused .busy
    else if !(s.plant.stages.get x).state.isFault then .refused .wrongState
    else .taken .ok [] (refresh (s.onPlant (stageOff x)))

/-! ## Points (R170, R172, R175) -/

/-- Whether a point is a point of an ABSENT hose (R164). -/
def Plant.pointAbsent (p : Plant) (x : Point) : Bool :=
  match x.hose with
  | some h => !p.present h
  | none => false

/-- POINT STATUS (R175). -/
def pointStatusAct (unit point : Nat) (s : State) : Answer :=
  match pointOf unit point with
  | none => .refused .badValue
  | some x => if s.plant.pointAbsent x then .refused .notPresent else .read (pointItems s.plant x)

/-- The value DRIVE POINT carries for an output: a listed position, or a setpoint clamped to 100,000 kPa. -/
def driveValue (o : OutPoint) (v : Nat) : Option OutVal :=
  if o.isSetpoint then some (.setpoint (min v 100000))
  else if v < 2 then some (.position (v = 1)) else none

/-- DRIVE POINT (R170). A valve value above 1 is BAD_VALUE before the hose is NOT_PRESENT (assumption 17), and a clamped
setpoint that is only stored is OK_STORED (assumption 12): the model's choices. -/
def driveAct (unit point value : Nat) (s : State) : Answer :=
  match pointOf unit point with
  | some (.out o) =>
    match driveValue o value with
    | none => .refused .badValue
    | some v =>
      if s.plant.pointAbsent (.out o) then .refused .notPresent
      else
        let t := s.onPlant (setManual o (some v))
        if (t.plant.outs.get o).owner (t.plant.maint o) = .manual then
          let clamped := o.isSetpoint && 100000 < value
          .taken (adjusted clamped) (if clamped then u32 100000 else []) t
        else .taken .okStored [] t
  | _ => .refused .badValue

/-- RELEASE POINT (R170). -/
def releasePointAct (unit point : Nat) (s : State) : Answer :=
  match pointOf unit point with
  | some (.out o) =>
    if s.plant.pointAbsent (.out o) then .refused .notPresent
    else .taken .ok [] (s.onPlant (setManual o none))
  | _ => .refused .badValue

/-- ACK EVENT (R172). -/
def ackAct (unit point : Nat) (s : State) : Answer :=
  match pointOf unit point with
  | some (.switch x) =>
    if s.plant.pointAbsent (.switch x) then .refused .notPresent
    else
      .kept .ok [] (s.onPlant fun p => p.setSwitch x { p.switches.get x with flag := false, count := 0 })
  | _ => .refused .badValue

end Sys2Proof.Machine
end

