-- ==== Sys2Proof/Machine/Requests.lean ====
section
/-! DEFINITION. Every request as a function of the state: its kind (12, "Request Kinds"), its tag, and the answer of its
owning block. -/

namespace Sys2Proof.Machine

/-- STATION STATUS (R184, R189): the reply carries the notices-lost flag as it stood, and the flag is then cleared. -/
def stationStatus (tag : Byte) (s : State) : State :=
  if s.office.replies.length < Config.replyPlaces then
    (reply 0x01 tag .ok (stationItems s) s).onPlant fun p => { p with lost := false }
  else overrun s

def setClockReq (tag : Byte) (day second : Nat) : State → State := respond 0x02 tag (setClockAct day second)
def configure (tag : Byte) (id u p v : Nat) : State → State := respond 0x03 tag (configureAct id u p v)
def readConfig (tag : Byte) (id u p : Nat) : State → State := respond 0x04 tag (readConfigAct id u p)
def openStation (tag : Byte) : State → State := respond 0x05 tag openAct
def closeStation (tag : Byte) (k : Nat) : State → State := respond 0x06 tag (closeAct k)
def park (tag : Byte) (d : Nat) : State → State := respond 0x07 tag (parkAct d)
def unpark (tag : Byte) (d : Nat) : State → State := respond 0x08 tag (unparkAct d)
def setHold (tag : Byte) : State → State := respond 0x09 tag setHoldAct
def releaseHold (tag : Byte) : State → State := respond 0x0A tag releaseHoldAct
def setTrip (tag : Byte) : State → State := respond 0x0B tag setTripAct
def resetTrip (tag : Byte) : State → State := respond 0x0C tag resetTripAct
def restart (tag : Byte) : State → State := respond 0x0D tag restartAct

def authoriseHose (tag : Byte) (h issuer token : Nat) (preset mass soc : Option Nat) : State → State :=
  respond 0x10 tag (authoriseAct h issuer token preset mass soc)

def authoriseByOrder (tag : Byte) (bus h : Nat) : State → State := respond 0x11 tag (authoriseOrderAct bus h)
def stopHose (tag : Byte) (h : Nat) : State → State := respond 0x12 tag (stopAct h)
def hoseStatus (tag : Byte) (h : Nat) : State → State := respond 0x13 tag (hoseStatusAct h)
def armDispenser (tag : Byte) (d m : Nat) : State → State := respond 0x14 tag (armAct d m)

def loadCredential (tag : Byte) (i : Nat) (x : CredItems) (a : Nat) : State → State :=
  respond 0x18 tag (loadCredAct i x a)

def addAllowance (tag : Byte) (i x : Nat) : State → State := respond 0x19 tag (addAct i x)
def suspend (tag : Byte) (i : Nat) : State → State := respond 0x1A tag (suspendAct i)
def resume (tag : Byte) (i : Nat) : State → State := respond 0x1B tag (resumeAct i)
def delete (tag : Byte) (i : Nat) : State → State := respond 0x1C tag (deleteAct i)
def readCredential (tag : Byte) (i : Nat) : State → State := respond 0x1D tag (readCredAct i)
def appendOrder (tag : Byte) (x : OrderItems) : State → State := respond 0x20 tag (appendAct x)
def spliceOrder (tag : Byte) (x : OrderItems) (k : Nat) : State → State := respond 0x21 tag (spliceAct x k)
def withdrawOrder (tag : Byte) (b : Nat) : State → State := respond 0x22 tag (withdrawAct b)
def readQueue (tag : Byte) (n : Nat) : State → State := respond 0x23 tag (readQueueAct n)
def tariffReq (tag : Byte) (xs : List PeriodItems) : State → State := respond 0x24 tag (tariffAct xs)
def readTickets (tag : Byte) (n : Nat) : State → State := respond 0x28 tag (readTicketsAct n)
def releaseTickets (tag : Byte) (n : Nat) : State → State := respond 0x29 tag (releaseTicketsAct n)
def readBatches (tag : Byte) (n : Nat) : State → State := respond 0x2A tag (readBatchesAct n)
def releaseBatches (tag : Byte) (n : Nat) : State → State := respond 0x2B tag (releaseBatchesAct n)
def flushBatches (tag : Byte) : State → State := respond 0x2C tag flushAct
def bankStatus (tag : Byte) : State → State := respond 0x30 tag bankStatusAct
def isolateBank (tag : Byte) (k : Nat) : State → State := respond 0x31 tag (isolateAct k)
def restoreBank (tag : Byte) (k : Nat) : State → State := respond 0x32 tag (restoreAct k)
def compEnable (tag : Byte) (c : Nat) : State → State := respond 0x33 tag (enableAct c)
def compDisable (tag : Byte) (c : Nat) : State → State := respond 0x33 tag (disableAct c)
def compClear (tag : Byte) (c : Nat) : State → State := respond 0x33 tag (clearCompAct c)
def chillerStatus (tag : Byte) : State → State := respond 0x34 tag chillerStatusAct
def clearStage (tag : Byte) (n : Nat) : State → State := respond 0x35 tag (clearStageAct n)
def pointStatus (tag : Byte) (u p : Nat) : State → State := respond 0x38 tag (pointStatusAct u p)
def drivePoint (tag : Byte) (u p v : Nat) : State → State := respond 0x39 tag (driveAct u p v)
def releasePoint (tag : Byte) (u p : Nat) : State → State := respond 0x3A tag (releasePointAct u p)
def ackEvent (tag : Byte) (u p : Nat) : State → State := respond 0x3B tag (ackAct u p)

/-- A request run on the state; a command that is no request leaves the state as it is. -/
def runRequest (i : Instr) (s : State) : State :=
  match i with
  | .stationStatus t => stationStatus t s
  | .setClock t d x => setClockReq t d x s
  | .configure t i u p v => configure t i u p v s
  | .readConfiguration t i u p => readConfig t i u p s
  | .openStation t => openStation t s
  | .closeStation t k => closeStation t k s
  | .park t d => park t d s
  | .unpark t d => unpark t d s
  | .setHold t => setHold t s
  | .releaseHold t => releaseHold t s
  | .setTrip t => setTrip t s
  | .resetTrip t => resetTrip t s
  | .restart t => restart t s
  | .authoriseHose t h i k p m x => authoriseHose t h i k p m x s
  | .authoriseByOrder t b h => authoriseByOrder t b h s
  | .stopHose t h => stopHose t h s
  | .hoseStatus t h => hoseStatus t h s
  | .armDispenser t d m => armDispenser t d m s
  | .loadCredential t i x a => loadCredential t i x a s
  | .addAllowance t i x => addAllowance t i x s
  | .suspend t i => suspend t i s
  | .resume t i => resume t i s
  | .delete t i => delete t i s
  | .readCredential t i => readCredential t i s
  | .appendOrder t x => appendOrder t x s
  | .spliceOrder t x k => spliceOrder t x k s
  | .withdrawOrder t b => withdrawOrder t b s
  | .readQueue t n => readQueue t n s
  | .loadTariff t xs => tariffReq t xs s
  | .readTickets t n => readTickets t n s
  | .releaseTickets t n => releaseTickets t n s
  | .readBatches t n => readBatches t n s
  | .releaseBatches t n => releaseBatches t n s
  | .flushBatches t => flushBatches t s
  | .bankStatus t => bankStatus t s
  | .isolateBank t k => isolateBank t k s
  | .restoreBank t k => restoreBank t k s
  | .compressorEnable t c => compEnable t c s
  | .compressorDisable t c => compDisable t c s
  | .compressorClear t c => compClear t c s
  | .chillerStatus t => chillerStatus t s
  | .clearStage t n => clearStage t n s
  | .pointStatus t u p => pointStatus t u p s
  | .drivePoint t u p v => drivePoint t u p v s
  | .releasePoint t u p => releasePoint t u p s
  | .ackEvent t u p => ackEvent t u p s
  | .powerOn | .receiveFrame _ | .frameGapTimeout | .transmitNextFrame | .clockAdvance | .rawLevel _ _
  | .debounceExpiry _ | .analogSample _ _ _ | .analogTimeout _ | .meterReport _ _ _ | .meterSilenceTimeout _
  | .observedReport _ _ | .travelLimitExpiry _ | .vehicleFrame _ _ | .frameAgeExpiry _ | .switchTimerExpiry _
  | .startTimerExpiry _ | .unloadTimerExpiry _ | .stoppingTimerExpiry _ | .stageStartTimerExpiry _
  | .offTimerSatisfied _ | .bandTimerExpiry | .stopTimerExpiry | .armIntervalEnd _ | .keepColdIntervalEnd _
  | .classSettleExpiry _ | .classStepTimerExpiry _ | .couplingTimeout _ | .supplyWaitTimeout _ | .pulseTimerExpiry _
  | .settleTimerExpiry _ | .precoolWaitTimeout _ | .pauseTimerExpiry _ _ | .corridorLowExpiry _ | .fillTimeLimit _
  | .afterflowComplete _ | .afterflowTimeout _ | .batchTimerExpiry _ => s

end Sys2Proof.Machine
end

