-- ==== Sys2Proof/Machine/Link.lean ====
section
/-! DEFINITION. The station link (12): reading a request from its kind and body (R187, R190), writing one, the receive
framer (R186) and the transmitter (R188). -/

namespace Sys2Proof.Machine

/-! ## Reading a request body -/

/-- What a kind and body read as (R187 steps 2 to 4). -/
inductive Parsed
  | unknown
  | badLength
  | badValue
  | request (i : Instr)
deriving DecidableEq, Repr

/-- The number in `n` bytes of a body from an offset. -/
def numAt (b : List Byte) (at_ n : Nat) : Nat := beNat ((b.drop at_).take n)

/-- An optional item of a body at an offset: its marker, and its number in `n` bytes; none where the marker is neither
absent nor present. -/
def optAt (b : List Byte) (at_ n : Nat) : Option (Option Nat) :=
  match numAt b at_ 1 with
  | 0 => some none
  | 1 => some (some (numAt b (at_ + 1) n))
  | _ => none

/-- A request whose items read as given, or BAD_VALUE where an item cannot be read. -/
def Parsed.of : Option Instr → Parsed
  | some i => .request i
  | none => .badValue

/-- A body of a required length read, or BAD_LENGTH. -/
def sized (b : List Byte) (n : Nat) (i : Option Instr) : Parsed := if b.length = n then .of i else .badLength

/-- The description of LOAD CREDENTIAL in a body. -/
def parseCred (b : List Byte) : Option CredItems :=
  match optAt b 16 4, optAt b 21 4, optAt b 26 4, optAt b 31 2 with
  | some a, some m, some c, some e =>
    some ⟨numAt b 2 1, numAt b 3 2, numAt b 5 8, numAt b 13 1, numAt b 14 1, numAt b 15 1, a, m, c, e⟩
  | _, _, _, _ => none

/-- The fields of an order in a body. -/
def parseOrder (b : List Byte) : Option OrderItems :=
  match numAt b 13 1 with
  | 0 => some ⟨numAt b 0 4, numAt b 4 2, numAt b 6 2, numAt b 8 4, numAt b 12 1, none⟩
  | 1 => some ⟨numAt b 0 4, numAt b 4 2, numAt b 6 2, numAt b 8 4, numAt b 12 1, some (numAt b 14 2, numAt b 16 4)⟩
  | _ => none

/-- The periods of LOAD TARIFF in what follows the count. -/
def parsePeriods : Nat → List Byte → List PeriodItems
  | 0, _ => []
  | n + 1, b =>
    ⟨numAt b 0 2, numAt b 2 4, numAt b 6 4, numAt b 10 4, numAt b 14 4, numAt b 18 4, numAt b 22 4, numAt b 26 4,
      numAt b 30 4⟩ :: parsePeriods n (b.drop 34)

/-- The optional items of AUTHORISE HOSE. -/
def parseAuthorise (t : Byte) (b : List Byte) : Option Instr :=
  match optAt b 11 4, optAt b 16 4, optAt b 21 2 with
  | some p, some m, some x => some (.authoriseHose t (numAt b 0 1) (numAt b 1 2) (numAt b 3 8) p m x)
  | _, _, _ => none

/-- The COMPRESSOR request by its action. -/
def parseCompressor (t : Byte) (b : List Byte) : Option Instr :=
  match numAt b 0 1 with
  | 0 => some (.compressorEnable t (numAt b 1 1))
  | 1 => some (.compressorDisable t (numAt b 1 1))
  | 2 => some (.compressorClear t (numAt b 1 1))
  | _ => none

/-- Whether the unit and point bytes at the head of a body name a pressure-control valve, whose value is 4 bytes wide.
DESIGN CHOICE (assumption 11): where they name no output, the value is 1 byte wide. -/
def wideDrive (u p : Nat) : Bool :=
  match pointOf u p with
  | some (.out o) => o.isSetpoint
  | _ => false

/-- A request read from its kind, tag and body (R187, R190). -/
def parse (kind : Nat) (t : Byte) (b : List Byte) : Parsed :=
  match kind with
  | 0x01 => sized b 0 (some (.stationStatus t))
  | 0x02 => sized b 6 (some (.setClock t (numAt b 0 2) (numAt b 2 4)))
  | 0x03 => sized b 7 (some (.configure t (numAt b 0 1) (numAt b 1 1) (numAt b 2 1) (numAt b 3 4)))
  | 0x04 => sized b 3 (some (.readConfiguration t (numAt b 0 1) (numAt b 1 1) (numAt b 2 1)))
  | 0x05 => sized b 0 (some (.openStation t))
  | 0x06 => sized b 1 (some (.closeStation t (numAt b 0 1)))
  | 0x07 => sized b 1 (some (.park t (numAt b 0 1)))
  | 0x08 => sized b 1 (some (.unpark t (numAt b 0 1)))
  | 0x09 => sized b 0 (some (.setHold t))
  | 0x0A => sized b 0 (some (.releaseHold t))
  | 0x0B => sized b 0 (some (.setTrip t))
  | 0x0C => sized b 0 (some (.resetTrip t))
  | 0x0D => sized b 0 (some (.restart t))
  | 0x10 => sized b 24 (parseAuthorise t b)
  | 0x11 => sized b 5 (some (.authoriseByOrder t (numAt b 0 4) (numAt b 4 1)))
  | 0x12 => sized b 1 (some (.stopHose t (numAt b 0 1)))
  | 0x13 => sized b 1 (some (.hoseStatus t (numAt b 0 1)))
  | 0x14 => sized b 2 (some (.armDispenser t (numAt b 0 1) (numAt b 1 1)))
  | 0x18 => sized b 38 ((parseCred b).map fun x => .loadCredential t (numAt b 0 2) x (numAt b 34 4))
  | 0x19 => sized b 6 (some (.addAllowance t (numAt b 0 2) (numAt b 2 4)))
  | 0x1A => sized b 2 (some (.suspend t (numAt b 0 2)))
  | 0x1B => sized b 2 (some (.resume t (numAt b 0 2)))
  | 0x1C => sized b 2 (some (.delete t (numAt b 0 2)))
  | 0x1D => sized b 2 (some (.readCredential t (numAt b 0 2)))
  | 0x20 => sized b 20 ((parseOrder b).map fun x => .appendOrder t x)
  | 0x21 => sized b 21 ((parseOrder b).map fun x => .spliceOrder t x (numAt b 20 1))
  | 0x22 => sized b 4 (some (.withdrawOrder t (numAt b 0 4)))
  | 0x23 => sized b 1 (some (.readQueue t (numAt b 0 1)))
  | 0x24 => sized b (1 + 34 * numAt b 0 1) (some (.loadTariff t (parsePeriods (numAt b 0 1) (b.drop 1))))
  | 0x28 => sized b 4 (some (.readTickets t (numAt b 0 4)))
  | 0x29 => sized b 4 (some (.releaseTickets t (numAt b 0 4)))
  | 0x2A => sized b 4 (some (.readBatches t (numAt b 0 4)))
  | 0x2B => sized b 4 (some (.releaseBatches t (numAt b 0 4)))
  | 0x2C => sized b 0 (some (.flushBatches t))
  | 0x30 => sized b 0 (some (.bankStatus t))
  | 0x31 => sized b 1 (some (.isolateBank t (numAt b 0 1)))
  | 0x32 => sized b 1 (some (.restoreBank t (numAt b 0 1)))
  | 0x33 => sized b 2 (parseCompressor t b)
  | 0x34 => sized b 0 (some (.chillerStatus t))
  | 0x35 => sized b 1 (some (.clearStage t (numAt b 0 1)))
  | 0x38 => sized b 2 (some (.pointStatus t (numAt b 0 1) (numAt b 1 1)))
  | 0x39 =>
    let w := if wideDrive (numAt b 0 1) (numAt b 1 1) then 4 else 1
    sized b (2 + w) (some (.drivePoint t (numAt b 0 1) (numAt b 1 1) (numAt b 2 w)))
  | 0x3A => sized b 2 (some (.releasePoint t (numAt b 0 1) (numAt b 1 1)))
  | 0x3B => sized b 2 (some (.ackEvent t (numAt b 0 1) (numAt b 1 1)))
  | _ => .unknown

/-! ## Writing a request, as the host does -/

/-- The description of LOAD CREDENTIAL as it is sent. -/
def credBody (x : CredItems) : List Byte :=
  u8 x.state ++ u16 x.issuer ++ u64 x.token ++ u8 x.kind ++ u8 x.grades ++ u8 x.priceClass ++ optItem 4 x.account
    ++ optItem 4 x.massLimit ++ optItem 4 x.amountCap ++ optItem 2 x.expiryDay

/-- The fields of an order as they are sent. -/
def orderBody (x : OrderItems) : List Byte :=
  u32 x.busId ++ u16 x.credIndex ++ u16 x.targetSoc ++ u32 x.expectedMass ++ u8 x.mask
    ++ (match x.deadline with | some t => u8 1 ++ u16 t.1 ++ u32 t.2 | none => u8 0 ++ u16 0 ++ u32 0)

/-- A period as it is sent. -/
def periodBody (x : PeriodItems) : List Byte :=
  u16 x.start ++ u32 x.p0 ++ u32 x.p1 ++ u32 x.p2 ++ u32 x.p3 ++ u32 x.p4 ++ u32 x.p5 ++ u32 x.p6 ++ u32 x.p7

/-- A request frame that has been put together: its kind, tag and body. -/
structure Sent where
  kind : Nat
  tag : Byte
  body : List Byte
deriving DecidableEq, Repr

/-- The kind, tag and body by which the host sends a request; none for a command that is no request. -/
def requestFrame : Instr → Option Sent
  | .stationStatus t => some ⟨0x01, t, []⟩
  | .setClock t d x => some ⟨0x02, t, u16 d ++ u32 x⟩
  | .configure t i u p v => some ⟨0x03, t, u8 i ++ u8 u ++ u8 p ++ u32 v⟩
  | .readConfiguration t i u p => some ⟨0x04, t, u8 i ++ u8 u ++ u8 p⟩
  | .openStation t => some ⟨0x05, t, []⟩
  | .closeStation t k => some ⟨0x06, t, u8 k⟩
  | .park t d => some ⟨0x07, t, u8 d⟩
  | .unpark t d => some ⟨0x08, t, u8 d⟩
  | .setHold t => some ⟨0x09, t, []⟩
  | .releaseHold t => some ⟨0x0A, t, []⟩
  | .setTrip t => some ⟨0x0B, t, []⟩
  | .resetTrip t => some ⟨0x0C, t, []⟩
  | .restart t => some ⟨0x0D, t, []⟩
  | .authoriseHose t h i k p m x =>
    some ⟨0x10, t, u8 h ++ u16 i ++ u64 k ++ optItem 4 p ++ optItem 4 m ++ optItem 2 x⟩
  | .authoriseByOrder t b h => some ⟨0x11, t, u32 b ++ u8 h⟩
  | .stopHose t h => some ⟨0x12, t, u8 h⟩
  | .hoseStatus t h => some ⟨0x13, t, u8 h⟩
  | .armDispenser t d m => some ⟨0x14, t, u8 d ++ u8 m⟩
  | .loadCredential t i x a => some ⟨0x18, t, u16 i ++ credBody x ++ u32 a⟩
  | .addAllowance t i x => some ⟨0x19, t, u16 i ++ u32 x⟩
  | .suspend t i => some ⟨0x1A, t, u16 i⟩
  | .resume t i => some ⟨0x1B, t, u16 i⟩
  | .delete t i => some ⟨0x1C, t, u16 i⟩
  | .readCredential t i => some ⟨0x1D, t, u16 i⟩
  | .appendOrder t x => some ⟨0x20, t, orderBody x⟩
  | .spliceOrder t x k => some ⟨0x21, t, orderBody x ++ u8 k⟩
  | .withdrawOrder t b => some ⟨0x22, t, u32 b⟩
  | .readQueue t n => some ⟨0x23, t, u8 n⟩
  | .loadTariff t xs => some ⟨0x24, t, u8 xs.length ++ xs.flatMap periodBody⟩
  | .readTickets t n => some ⟨0x28, t, u32 n⟩
  | .releaseTickets t n => some ⟨0x29, t, u32 n⟩
  | .readBatches t n => some ⟨0x2A, t, u32 n⟩
  | .releaseBatches t n => some ⟨0x2B, t, u32 n⟩
  | .flushBatches t => some ⟨0x2C, t, []⟩
  | .bankStatus t => some ⟨0x30, t, []⟩
  | .isolateBank t k => some ⟨0x31, t, u8 k⟩
  | .restoreBank t k => some ⟨0x32, t, u8 k⟩
  | .compressorEnable t c => some ⟨0x33, t, u8 0 ++ u8 c⟩
  | .compressorDisable t c => some ⟨0x33, t, u8 1 ++ u8 c⟩
  | .compressorClear t c => some ⟨0x33, t, u8 2 ++ u8 c⟩
  | .chillerStatus t => some ⟨0x34, t, []⟩
  | .clearStage t n => some ⟨0x35, t, u8 n⟩
  | .pointStatus t u p => some ⟨0x38, t, u8 u ++ u8 p⟩
  | .drivePoint t u p v => some ⟨0x39, t, u8 u ++ u8 p ++ (if wideDrive u p then u32 v else u8 v)⟩
  | .releasePoint t u p => some ⟨0x3A, t, u8 u ++ u8 p⟩
  | .ackEvent t u p => some ⟨0x3B, t, u8 u ++ u8 p⟩
  | .powerOn | .receiveFrame _ | .frameGapTimeout | .transmitNextFrame | .clockAdvance | .rawLevel _ _
  | .debounceExpiry _ | .analogSample _ _ _ | .analogTimeout _ | .meterReport _ _ _ | .meterSilenceTimeout _
  | .observedReport _ _ | .travelLimitExpiry _ | .vehicleFrame _ _ | .frameAgeExpiry _ | .switchTimerExpiry _
  | .startTimerExpiry _ | .unloadTimerExpiry _ | .stoppingTimerExpiry _ | .stageStartTimerExpiry _
  | .offTimerSatisfied _ | .bandTimerExpiry | .stopTimerExpiry | .armIntervalEnd _ | .keepColdIntervalEnd _
  | .classSettleExpiry _ | .classStepTimerExpiry _ | .couplingTimeout _ | .supplyWaitTimeout _ | .pulseTimerExpiry _
  | .settleTimerExpiry _ | .precoolWaitTimeout _ | .pauseTimerExpiry _ _ | .corridorLowExpiry _ | .fillTimeLimit _
  | .afterflowComplete _ | .afterflowTimeout _ | .batchTimerExpiry _ => none

/-! ## The framer (R186) -/

/-- What the framer finds in the bytes it holds from a marker on. -/
inductive Found
  | partway
  | badLength
  | badCheck
  | badKind
  | received (kind : Nat) (tag : Byte) (body : List Byte)
deriving DecidableEq, Repr

/-- The bytes from a marker on judged (R185, R186). -/
def found (buf : List Byte) : Found :=
  if buf.length < 3 then .partway
  else
    let n := numAt buf 1 2
    if n < 2 ∨ 1026 < n then .badLength
    else if buf.length < n + 5 then .partway
    else if (crc16 ((buf.drop 1).take (n + 2))).toNat ≠ numAt buf (n + 3) 2 then .badCheck
    else
      let kind := numAt buf 3 1
      if kind = 0 ∨ 0x40 ≤ kind then .badKind
      else .received kind ((buf.getD 4 0#8)) ((buf.drop 5).take (n - 2))

/-- A received request handled (R187). -/
def handle (kind : Nat) (tag : Byte) (body : List Byte) (s : State) : State :=
  if s.office.replies.length < Config.replyPlaces then
    match parse kind tag body with
    | .unknown => reply kind tag .unknownRequest [] s
    | .badLength => reply kind tag .badLength [] s
    | .badValue => reply kind tag .badValue [] s
    | .request i => runRequest i s
  else overrun s

/-- The framer's buffer after a byte: in HUNT only a marker begins a frame (R186). -/
def takeByte (buf : List Byte) (b : Byte) : List Byte :=
  match buf with
  | [] => if b = 0x7E#8 then [b] else []
  | _ :: _ => buf ++ [b]

/-- A discarded frame counted. -/
def countDiscard (f : Counts → Counts) (s : State) : State :=
  s.onOffice fun o => { o with framer := [], counts := f o.counts }

/-- Bytes fed to the framer, at most `fuel` times: a discarded frame's bytes after its marker are fed again. -/
def feed : Nat → List Byte → State → State
  | 0, _, s => s
  | _ + 1, [], s => s
  | n + 1, b :: bs, s =>
    let buf := takeByte s.office.framer b
    let again := buf.drop 1 ++ bs
    match found buf with
    | .partway => feed n bs (s.onOffice fun o => { o with framer := buf })
    | .badLength => feed n again (countDiscard (fun c => { c with length := bump c.length }) s)
    | .badCheck => feed n again (countDiscard (fun c => { c with check := bump c.check }) s)
    | .badKind => feed n again (countDiscard (fun c => { c with kind := bump c.kind }) s)
    | .received k t body => feed n bs (handle k t body (s.onOffice fun o => { o with framer := [] }))

/-- As many feeds as bytes, held and new, can take. -/
def feedFuel (held new : Nat) : Nat := (held + new + 1) * (held + new + 1)

/-- A run of bytes arrives from the host (R186). -/
def receive (bytes : List Byte) (s : State) : State :=
  match bytes with
  | [] => s
  | _ :: _ => feed (feedFuel s.office.framer.length bytes.length) bytes (s.onOffice fun o => { o with gapMs := 0 })

/-- 20 ms pass in FRAME with no byte (R186). A frame that the rescan begins has its own 20 ms, counted from the rescan (the
model's choice, assumption 31); in HUNT nothing happens (assumption 3). -/
def gapTimeout (s : State) : State :=
  match s.office.framer with
  | [] => s
  | _ :: bs =>
    feed (feedFuel 0 bs.length) bs
      (countDiscard (fun c => { c with gap := bump c.gap }) (s.onOffice fun o => { o with gapMs := 0 }))

/-! ## The transmitter (R188) -/

/-- The transmitter is free: it begins to send the head of the reply queue, or else of the notice queue. -/
def transmit (s : State) : State :=
  match s.office.replies with
  | r :: rs => s.onOffice fun o => { o with replies := rs, line := r.frame }
  | [] =>
    match s.plant.notices with
    | n :: ns => (s.onOffice fun o => { o with line := n.frame }).onPlant fun p => { p with notices := ns }
    | [] => s

/-! ## Power -/

/-- Application of power (R176): every record at its power-on value. -/
def applyPower (s : State) : State := { State.reset with pending := s.pending }

end Sys2Proof.Machine
end

