-- ==== Sys2Proof/Machine/Field.lean ====
section
/-! DEFINITION. The events of the field, meter and vehicle lines (06, 10), as functions of the state. -/

namespace Sys2Proof.Machine

/-! ## Switches and levels (R171, R172) -/

/-- A raw level at a switch record (R171): a level other than the debounced one becomes the candidate and starts the timer
at zero, also where it is the candidate already (DEDUCED, assumption 16). DESIGN CHOICE (assumption 35): where the level
is the debounced one, the debounce timer is 0. -/
def SwitchRec.raw (r : SwitchRec) (l : Nat) : SwitchRec :=
  if r.level = some l then { r with candidate := none, debounceMs := 0 }
  else { r with candidate := some l, debounceMs := 0 }

/-- A raw level arrives (R171). -/
def rawLevel (x : SwitchPoint) (l : Nat) (s : State) : State :=
  s.onPlant fun p => p.setSwitch x ((p.switches.get x).raw l)

/-- Whether a change of level is an edge that matches a selection (R165, R172). -/
def EdgeSel.meets (e : EdgeSel) (old new : Nat) : Bool :=
  match e with
  | .rising => old < new
  | .falling => new < old
  | .both => old ≠ new
  | .none => false

/-- The edge of a change of debounced level counted, and noticed where the flag was clear (R172). -/
def countEdge (x : SwitchPoint) (old : Option Nat) (new : Nat) (p : Plant) : Plant :=
  let r := p.switches.get x
  match old with
  | none => p
  | some l =>
    if r.edge.meets l new then
      let n := min 255 (r.count + 1)
      let q := p.setSwitch x { r with count := n, flag := true }
      if r.flag then q else notify (.pointEvent x new n) q
    else p

/-- A breakaway (R77). DESIGN CHOICE (assumption 7): the parted hose comes before the other, hose A or B. -/
def breakaway (h : Hose) (s : State) : State :=
  let s := s.onPlant (parkNow h.disp)
  let s := endOrCancel h .breakaway .breakaway s
  s.onPlant (endFill h.other .breakaway)

/-- A change of nX.HOL reaches the session (R55, R57, R63, R78). -/
def holsterChange (h : Hose) (s : State) : State :=
  if s.plant.asserted (.hol h) then
    if s.plant.sessState h = .idle then s.onPlant (liftHose h) else s
  else
    match s.plant.sessState h with
    | .lifted | .coupled => s.onPlant (unliftedToIdle h)
    | .authorised | .queued => cancel h .cancelled s
    | _ => s.onPlant (endFill h .decoupled)

/-- A change of nX.CPL reaches the session (R57, R60, R78). -/
def couplingChange (h : Hose) (s : State) : State :=
  s.onPlant fun p =>
    if p.asserted (.cpl h) then
      match p.sessState h with
      | .lifted => noticeSession h (modSession h (fun x => { x with state := .coupled }) p)
      | .authorised => startOrQueue h (modSession h (fun x => { x with coupling := x.coupling.stop }) p)
      | _ => p
    else
      match p.sessState h with
      | .coupled => noticeSession h (modSession h (fun x => { x with state := .lifted }) p)
      | .queued =>
        leaveQueue h (modSession h (fun x =>
          { x with state := .authorised, wait := none, queuePos := none, coupling := .start }) p)
      | _ => endFill h .decoupled p

/-- A change of a debounced level passed to its function owner (R171). DESIGN CHOICE (assumption 26): STAGE_STATE of a
stage fault comes before the CONDITION it brings about. -/
def levelChange (x : SwitchPoint) (s : State) : State :=
  match x with
  | .hol h => holsterChange h s
  | .cpl h => couplingChange h s
  | .brk h => if s.plant.asserted x then breakaway h s else s
  | .compFlt c => if s.plant.asserted x then s.onPlant (lockOut c .fault) else s
  | .stageFlt t => refresh (if s.plant.asserted x then s.onPlant (faultStage t .fault) else s)
  | .esd _ | .gd _ | .fd1 | .fd2 | .caGd => refresh s

/-- Whether a point passes its levels, samples and validity on: not for a hose that is ABSENT (R164). -/
def Plant.passes (p : Plant) : Option Hose → Bool
  | some h => p.present h
  | none => true

/-- The debounce timer of a point with a candidate reaches the debounce time (R171, R172). DESIGN CHOICE: POINT_EVENT comes
before the owner's notices (assumption 26), and the timer stays at the debounce time (assumption 35). -/
def debounceExpiry (x : SwitchPoint) (s : State) : State :=
  let r := s.plant.switches.get x
  match r.candidate with
  | none => s
  | some l =>
    let s := s.onPlant fun p =>
      p.setSwitch x { r with level := some l, candidate := none, debounceMs := r.debounceTime }
    if s.plant.passes x.hose then settle (levelChange x (s.onPlant (countEdge x r.level l))) else s

/-! ## Analog points (R173) -/

/-- The step timer of a fill tested at a sample of Dn.TG or at its becoming INVALID (R50). -/
def stepTest (d : Disp) (p : Plant) : Plant :=
  match p.runningRamp d with
  | none => p
  | some r =>
    let t := p.classStep.get d
    let lower := 30000 ≤ (p.classSettle.get d).ms && r.cls.depth < (p.measured.get d).depth
    { p with classStep := p.classStep.set d (if lower then (if t.running then t else .start) else .zero) }

/-- The measured class of a dispenser set, with the test of its step timer (R48, R50). -/
def setClass (d : Disp) (c : PrecoolClass) (p : Plant) : Plant :=
  stepTest d { p with measured := p.measured.set d c }

/-- SENSOR removed where valid samples of both are held (R17). -/
def clearSensor (k : BankId) (p : Plant) : Plant :=
  if (p.banks.get k).pressure.isSome && (p.banks.get k).temperature.isSome then unisolate k .sensor p else p

/-- A valid pressure sample of a bank (R14, R16, R17, R23, R25, R31). -/
def bankPressure (k : BankId) (v : Nat) (p : Plant) : Plant :=
  let p := putBank k { p.banks.get k with pressure := some v }.reckoned p
  let p := if (p.banks.get k).maxP + 2000 < v then isolate k .overpressure p else unisolate k .overpressure p
  let p := clearSensor k p
  let p := match (p.banks.get k).filler with
    | some c => if (p.banks.get k).maxP ≤ v then bankFull c p else p
    | none => p
  let p := eachDisp (fun d q =>
    match q.activeHose d with
    | some h => if (q.sessions.get h).bank = some k then switchTest h q else q
    | none => q) p
  { p with renewDue := true }

/-- A valid temperature sample of a bank (R14, R17). -/
def bankTemperature (k : BankId) (v : Nat) (p : Plant) : Plant :=
  clearSensor k (putBank k { p.banks.get k with temperature := some v }.reckoned p)

/-- A valid sample passed to its consumers. -/
def passSample (x : AnalogPoint) (v : Nat) (p : Plant) : Plant :=
  match x with
  | .tg d => setClass d (classOf v) p
  | .pt h => hoseSample h v p
  | .bankPt k => bankPressure k v p
  | .bankTt k => bankTemperature k v p
  | .supPt => p
  | .ambTt => bandSample v p

/-- A point's becoming INVALID passed to its consumers. -/
def passInvalid (x : AnalogPoint) (p : Plant) : Plant :=
  match x with
  | .tg d => setClass d .none p
  | .pt h => endFill h .sensorFault p
  | .bankPt k => isolate k .sensor (putBank k { p.banks.get k with pressure := none }.reckoned p)
  | .bankTt k => isolate k .sensor (putBank k { p.banks.get k with temperature := none }.reckoned p)
  | .supPt => p
  | .ambTt => setBand 6 p

/-- A point made INVALID, its value kept, and its consumers told where it was VALID. -/
def invalidate (x : AnalogPoint) (age : Nat) (s : State) : State :=
  let r := s.plant.analogs.get x
  let s := s.onPlant fun p => p.setAnalog x { r with valid := false, ageMs := age }
  if r.valid && s.plant.passes (Point.analog x).hose then settle (s.onPlant (passInvalid x)) else s

/-- A sample arrives (R173). -/
def analogSample (x : AnalogPoint) (inRange : Bool) (v : Nat) (s : State) : State :=
  if inRange then
    let s := s.onPlant fun p => p.setAnalog x ⟨some v, true, 0⟩
    if s.plant.passes (Point.analog x).hose then settle (s.onPlant (passSample x v)) else s
  else invalidate x 0 s

/-- A point's sample age reaches 1 s (R173). An age of 0 is that of a sample taken first at the same moment, which keeps the
point VALID. -/
def analogTimeout (x : AnalogPoint) (s : State) : State :=
  let r := s.plant.analogs.get x
  if r.valid ∧ 0 < r.ageMs then invalidate x (max r.ageMs 1000) s else s

/-! ## Meters (R73, R75, R76, R174) -/

/-- A meter report arrives (R174); in ENDING, two consecutive zero reports complete afterflow (R73). -/
def meterReport (d : Disp) (increment : Nat) (fault : Bool) (s : State) : State :=
  let s := s.onPlant fun p => { p with meters := p.meters.set d ⟨some (increment, fault), 0⟩ }
  match s.plant.activeHose d with
  | none => s
  | some h =>
    let service := s.office.isService (s.plant.sessions.get h)
    let s := s.onPlant (meterActive h increment fault service)
    settle (if 2 ≤ (s.plant.disps.get d).zeroCount then completeAfterflow h s else s)

/-- The meter silence timer reaches 1 s (R76). -/
def meterSilence (d : Disp) (s : State) : State :=
  match s.plant.activeHose d with
  | none => s
  | some h => if (s.plant.disps.get d).silence.running then settle (s.onPlant (silenceTaint h)) else s

/-! ## Readbacks (R168, R169) -/

/-- A valve fault reaches the point's function owner (R33, R38, R79). DESIGN CHOICE (assumption 26): STAGE_STATE before
CONDITION. -/
def faultOwner (o : OutPoint) (s : State) : State :=
  let disp := fun d => s.onPlant fun p =>
    match p.activeHose d with
    | some h => endFill h .valveFault p
    | none => p
  match o with
  | .inlet d _ => disp d
  | .pcv d => disp d
  | .prv d => disp d
  | .hv h => disp h.disp
  | .compRun c => s.onPlant (lockOut c .valveFault)
  | .discharge c _ => s.onPlant (lockOut c .valveFault)
  | .stageRun t => refresh (s.onPlant (faultStage t .valveFault))

/-- Entry to DISAGREES (R169): the owner is told, and VALVE_FAULT is noticed with the values at the event. -/
def valveFault (o : OutPoint) (s : State) : State :=
  let r := s.plant.outs.get o
  let n := Notice.valveFault o r.commanded r.observed (r.owner (s.plant.maint o))
  let s := s.onPlant fun p => p.setOut o { r with readback := .disagrees }
  settle ((faultOwner o s).onPlant (notify n))

/-- Whether the readback of a point is judged: not nX.HV of a hose that is ABSENT (R164). -/
def Plant.judged (p : Plant) (o : OutPoint) : Bool := p.passes (Point.out o).hose

/-- An observed value at an output record: the readback judged (R168), and whether it is an unprompted change. -/
def OutRec.observe (r : OutRec) (v : OutVal) : OutRec × Bool :=
  let q := { r with observed := some v }
  match r.readback with
  | .travelling => if v.agrees r.commanded then ({ q with readback := .agrees }, false) else (q, false)
  | .agrees => (q, !v.agrees r.commanded)
  | .disagrees => if v.agrees r.commanded then ({ q with readback := .agrees }, false) else (q, false)

/-- The value a report carries for a point. -/
def OutPoint.reported (o : OutPoint) (v : Nat) : OutVal :=
  if o.isSetpoint then .setpoint v else .position (v ≠ 0)

/-- An observed report arrives (R168, R169). -/
def observedReport (o : OutPoint) (v : Nat) (s : State) : State :=
  let r := s.plant.outs.get o
  if s.plant.judged o then
    let q := r.observe (OutPoint.reported o v)
    let s := s.onPlant fun p => p.setOut o q.1
    if q.2 then valveFault o s else settle s
  else s.onPlant fun p => p.setOut o { r with observed := some (OutPoint.reported o v) }

/-- The travel timer of a TRAVELLING point reaches its limit (R169). A timer at 0 is that of a new command taken first at the
same moment, which restarts the travel: no fault is raised. -/
def travelLimit (o : OutPoint) (s : State) : State :=
  let r := s.plant.outs.get o
  if r.readback = .travelling ∧ 0 < r.travelMs ∧ s.plant.judged o then
    valveFault o (s.onPlant fun p => p.setOut o { r with travelMs := r.travelLimit })
  else s

/-! ## Vehicle frames (R107 to R116) -/

/-- The bytes a frame's check covers, in their order of transmission (R107). -/
def frameBytes (f : VehFrame) : List Byte :=
  u32 f.vehicleId ++ u8 f.nwp ++ u16 f.volume ++ u32 f.pressure ++ u16 f.temperature ++ u8 f.command

/-- The rejection reason of a frame on a hose of a grade, or none where it is valid (R108). -/
def rejection (g : Grade) (f : VehFrame) : Option Rejection :=
  let code := match g with | .h70 => 70 | .h35 => 35
  let range := match g with | .h70 => (10, 500) | .h35 => (100, 5000)
  if (crc16 (frameBytes f)).toNat ≠ f.check then some .check
  else if f.nwp ≠ code then some .nwp
  else if 100000 < f.pressure then some .range
  else if f.temperature < 2000 ∨ 3730 < f.temperature then some .range
  else if f.volume < range.1 ∨ range.2 < f.volume then some .range
  else if 2 < f.command then some .command
  else none

/-- A valid frame at a receiver (R109). -/
def Receiver.hear (r : Receiver) (f : VehFrame) : Receiver :=
  { r with frame := some f, ageMs := 0, invalidRun := 0, validCount := min 65535 (r.validCount + 1) }

/-- An invalid frame at a receiver (R109). -/
def Receiver.reject (r : Receiver) (x : Rejection) : Receiver :=
  { r with invalidRun := min 255 (r.invalidRun + 1), invalidCount := min 65535 (r.invalidCount + 1)
           lastRejection := some x }

/-- A valid frame handed to its session (R111). -/
def handFrame (h : Hose) (f : VehFrame) (s : State) : State :=
  match s.plant.sessState h with
  | .coupled =>
    if (s.plant.disps.get h.disp).depotMode && f.vehicleId ≠ 0 then forward h f.vehicleId s else s
  | .precheck | .waitPrecool | .filling => s.onPlant (frameToFill h f)
  | _ => s

/-- A vehicle frame arrives (R107); it is discarded on the line of an ABSENT hose and while the session is IDLE. -/
def vehicleFrame (h : Hose) (f : VehFrame) (s : State) : State :=
  match s.plant.grade.get h with
  | none => s
  | some g =>
    if s.plant.sessState h = .idle then s
    else
      let r := s.plant.receivers.get h
      match rejection g f with
      | none => settle (handFrame h f (s.onPlant fun p => p.setReceiver h (r.hear f)))
      | some x =>
        let q := r.reject x
        let s := s.onPlant fun p => p.setReceiver h q
        if r.state = .current ∧ q.state = .stale then settle (s.onPlant (lineLoss h)) else s

/-- A receiver's frame age reaches 1 s (R110). An age of 0 is that of a valid frame taken first at the same moment, which
prevents the line loss. -/
def frameAge (h : Hose) (s : State) : State :=
  let r := s.plant.receivers.get h
  match r.frame with
  | none => s
  | some _ =>
    if r.ageMs = 0 then s
    else
      let s := s.onPlant fun p => p.setReceiver h { r with ageMs := max r.ageMs 1000 }
      if r.invalidRun < 3 then settle (s.onPlant (lineLoss h)) else s

end Sys2Proof.Machine
end

