-- ==== Sys2Proof/Machine/Timers.lean ====
section
/-! DEFINITION. The expiries: what happens at the event at which a timer reaches its limit. Each acts where its timer runs,
and leaves the state as it is where it does not. -/

namespace Sys2Proof.Machine

/-! ## Supply and precooling -/

/-- The switch timer reaches 3 s (R23): a bank switch begins. -/
def switchExpiry (d : Disp) (s : State) : State :=
  match s.plant.runningRamp d with
  | none => s
  | some r =>
    match (s.plant.sessions.get r.hose).bank with
    | none => s
    | some k => if (s.plant.disps.get d).switchT.running then settle (s.onPlant (beginSwitch r.hose k false)) else s

/-- The start timer of a compressor reaches 20 s (R29). -/
def startExpiry (c : CompId) (s : State) : State :=
  if (s.plant.comps.get c).state = .starting then settle (s.onPlant (startDone c)) else s

/-- The unload timer of a compressor reaches 120 s (R32). -/
def unloadExpiry (c : CompId) (s : State) : State :=
  if (s.plant.comps.get c).state = .unloaded then settle (s.onPlant (compEnter c .stopping)) else s

/-- The stopping timer of a compressor reaches 10 s (R32). -/
def stoppingExpiry (c : CompId) (s : State) : State :=
  if (s.plant.comps.get c).state = .stopping then settle (s.onPlant (compRest c .stopped)) else s

/-- The start timer of a stage reaches 30 s (R37): it enters RUNNING and gives capacity. DESIGN CHOICE (assumption 34):
the start timer is 0 from the entry to RUNNING. -/
def stageStarted (x : StageId) (s : State) : State :=
  if (s.plant.stages.get x).state = .starting then
    settle (s.onPlant fun p => evaluate (putStage x ⟨.running, 0, 0⟩ p))
  else s

/-- The off timer of a stage reaches 60 s (R37): the start decision is made. -/
def offSatisfied (x : StageId) (s : State) : State :=
  if (s.plant.stages.get x).state = .off then
    settle (s.onPlant fun p => { p with stages := p.stages.set x { p.stages.get x with offMs := 60000 } })
  else s

/-- The band timer reaches 60 s (R39): the candidate becomes the chiller ambient band. -/
def bandExpiry (s : State) : State :=
  match s.plant.candidate with
  | some c => settle (s.onPlant (setBand c.1))
  | none => s

/-- The stop timer reaches 300 s (R52). -/
def stopExpiry (s : State) : State := if s.plant.stopT.running then settle (s.onPlant stopStage) else s

/-- The arm interval of a dispenser ends (R47). -/
def armEnd (d : Disp) (s : State) : State :=
  if (s.plant.armT.get d).isSome then settle (s.onPlant fun p => { p with armT := p.armT.set d none }) else s

/-- The keep-cold interval of a dispenser ends (R47). -/
def keepEnd (d : Disp) (s : State) : State :=
  if (s.plant.keepT.get d).isSome then settle (s.onPlant fun p => { p with keepT := p.keepT.set d none }) else s

/-- The class settle timer of a fill reaches 30 s (R49, R50): stepping may begin at the next sample of Dn.TG. -/
def classSettled (d : Disp) (s : State) : State :=
  if (s.plant.classSettle.get d).running then
    settle (s.onPlant fun p => { p with classSettle := p.classSettle.set d (.stopAt 30000) })
  else s

/-- A fill's class steps down by one (R50, R91): the step timer restarts from zero and the rate changes. DESIGN CHOICE
(assumption 22): the timer runs on from the step until a sample clears it, also where the measured class is the new class.
-/
def stepClass (d : Disp) (p : Plant) : Plant :=
  match p.runningRamp d with
  | none => p
  | some r =>
    if r.cls = .none then p
    else
      let q := r.rateChange ((p.grade.get r.hose).getD .h70) r.cls.down r.comm
      let p := { putRamp d q.1 p with classStep := p.classStep.set d .start }
      endFor r.hose (reasonIf q.2 .precoolLost) p

/-- The step timer of a fill reaches 10 s (R50). -/
def classStepExpiry (d : Disp) (s : State) : State :=
  if (s.plant.classStep.get d).running then settle (s.onPlant (stepClass d)) else s

/-! ## Sessions -/

/-- The coupling timer of an AUTHORISED session reaches 120 s (R60, R63). -/
def couplingExpiry (h : Hose) (s : State) : State :=
  if s.plant.sessState h = .authorised then
    settle (cancel h .cancelled (s.onPlant (modSession h fun x => { x with coupling := .stopAt 120000 })))
  else s

/-- The supply wait timer of a session in PRECHECK reaches 90 s (R65). -/
def supplyExpiry (h : Hose) (s : State) : State :=
  if s.plant.sessState h = .precheck ∧ (s.plant.sessions.get h).supplyWait.running then
    settle (s.onPlant fun p =>
      endFill h .supplyExhausted (modSession h (fun x => { x with supplyWait := .stopAt 90000 }) p))
  else s

/-- The pulse timer reaches 3 s (R66). -/
def pulseExpiry (h : Hose) (s : State) : State :=
  if s.plant.sessState h = .precheck ∧ (s.plant.sessions.get h).pulseStep = some .pulsing then
    settle (s.onPlant (pulseDone h))
  else s

/-- The settle timer reaches 5 s (R66 to R68). -/
def settleExpiry (h : Hose) (s : State) : State :=
  if s.plant.sessState h = .precheck ∧ (s.plant.sessions.get h).pulseStep = some .settling then
    settle (s.onPlant (settleDone h))
  else s

/-- The precool wait timer reaches 60 s (R70): the session enters FILLING where it is ready to flow, granted or not. -/
def precoolExpiry (h : Hose) (s : State) : State :=
  if s.plant.sessState h = .waitPrecool then
    settle (s.onPlant fun p =>
      let p := modSession h (fun x => { x with precoolWait := .stopAt 60000 }) p
      if p.readyToFlow h then enterFilling h p else endFill h .precoolUnavailable p)
  else s

/-- A pause timer reaches its limit (R95); BANK_SWITCH has none. -/
def pauseExpiry (d : Disp) (c : PauseCause) (s : State) : State :=
  match s.plant.runningRamp d, pauseLimit c with
  | some r, some l =>
    if (r.pauses.get c).isSome then
      settle (s.onPlant fun p => endFill r.hose l.2 (putRamp d { r with pauses := r.pauses.put c (some l.1) } p))
    else s
  | _, _ => s

/-- The corridor-low time reaches 120 s (R97). -/
def corridorExpiry (d : Disp) (s : State) : State :=
  match s.plant.runningRamp d with
  | some r =>
    if r.lowHold then
      settle (s.onPlant fun p => endFill r.hose .corridorLow (putRamp d { r with lowMs := 120000 } p))
    else s
  | none => s

/-- The fill time reaches the fill's time limit (R101). -/
def fillExpiry (d : Disp) (s : State) : State :=
  match s.plant.runningRamp d with
  | some r =>
    settle (s.onPlant fun p => endFill r.hose .timeLimit (putRamp d { r with fillMs := r.limitS * 1000 } p))
  | none => s

/-- The zero count of a dispenser's fill in ENDING reaches 2 (R73). The session settles in any ENDING state, and the count is
not asked: that AFTERFLOW COMPLETE may be presented below 2 is the model's choice (assumption 3). -/
def zeroComplete (d : Disp) (s : State) : State :=
  match s.plant.activeHose d with
  | none => s
  | some h => if s.plant.sessState h = .ending then settle (completeAfterflow h s) else s

/-- The afterflow timer reaches 3 s (R73). -/
def afterflowExpiry (h : Hose) (s : State) : State :=
  if s.plant.sessState h = .ending then
    settle (completeAfterflow h (s.onPlant (modSession h fun x => { x with afterflow := .stopAt 3000 })))
  else s

/-! ## The clock and the batches -/

/-- One second of the station clock (R147). -/
def clockSecond (s : State) : State :=
  match s.office.clock with
  | none => s
  | some _ => settle (clockAdvance s)

/-- The open timer of a batch reaches its limit (R161). -/
def batchExpiry (n : Nat) (s : State) : State :=
  closeWith .timer (fun b => b.number = n) (s.onOffice fun o =>
    { o with openBatches := o.openBatches.map fun b =>
        if b.number = n then { b with openMs := b.limitMin * 60000 } else b })

end Sys2Proof.Machine
end

