-- ==== Sys2Proof/Machine/Commands.lean ====
section
/-! DEFINITION. The meaning of each command: one definition for each row of the table, over the operations of the blocks.
Each answers a next state: no rule of the manual stops the part. -/

namespace Sys2Proof.Machine

/-- What a command answers. -/
abbrev Result := Host.Outcome State Fault Refusal

/-- POWER_ON (R176). -/
def execPowerOn (s : State) : Result := .next (applyPower s)

/-- RECEIVE_FRAME (R186, R187). -/
def execReceiveFrame (bytes : List Byte) (s : State) : Result := .next (receive bytes s)

/-- FRAME_GAP_TIMEOUT (R186). -/
def execFrameGapTimeout (s : State) : Result := .next (gapTimeout s)

/-- TRANSMIT_NEXT_FRAME (R188). -/
def execTransmitNextFrame (s : State) : Result := .next (transmit s)

/-- STATION_STATUS (R184, R189). -/
def execStationStatus (tag : Byte) (s : State) : Result := .next (stationStatus tag s)

/-- SET_CLOCK (R148). -/
def execSetClock (tag : Byte) (day second : Nat) (s : State) : Result := .next (setClockReq tag day second s)

/-- CONFIGURE (R191). -/
def execConfigure (tag : Byte) (id unit point value : Nat) (s : State) : Result :=
  .next (configure tag id unit point value s)

/-- READ_CONFIGURATION (R192). -/
def execReadConfiguration (tag : Byte) (id unit point : Nat) (s : State) : Result :=
  .next (readConfig tag id unit point s)

/-- OPEN_STATION (R177). -/
def execOpenStation (tag : Byte) (s : State) : Result := .next (openStation tag s)

/-- CLOSE_STATION (R178, R179). -/
def execCloseStation (tag : Byte) (kind : Nat) (s : State) : Result := .next (closeStation tag kind s)

/-- PARK (R180). -/
def execPark (tag : Byte) (disp : Nat) (s : State) : Result := .next (park tag disp s)

/-- UNPARK (R180). -/
def execUnpark (tag : Byte) (disp : Nat) (s : State) : Result := .next (unpark tag disp s)

/-- SET_HOLD (R181). -/
def execSetHold (tag : Byte) (s : State) : Result := .next (setHold tag s)

/-- RELEASE_HOLD (R181). -/
def execReleaseHold (tag : Byte) (s : State) : Result := .next (releaseHold tag s)

/-- SET_TRIP (R182). -/
def execSetTrip (tag : Byte) (s : State) : Result := .next (setTrip tag s)

/-- RESET_TRIP (R182). -/
def execResetTrip (tag : Byte) (s : State) : Result := .next (resetTrip tag s)

/-- RESTART (R183). -/
def execRestart (tag : Byte) (s : State) : Result := .next (restart tag s)

/-- AUTHORISE_HOSE (R58, R59). -/
def execAuthoriseHose (tag : Byte) (hose issuer token : Nat) (preset massLimit targetSoc : Option Nat) (s : State) : Result :=
  .next (authoriseHose tag hose issuer token preset massLimit targetSoc s)

/-- AUTHORISE_BY_ORDER (R130). -/
def execAuthoriseByOrder (tag : Byte) (busId hose : Nat) (s : State) : Result :=
  .next (authoriseByOrder tag busId hose s)

/-- STOP_HOSE (R64). -/
def execStopHose (tag : Byte) (hose : Nat) (s : State) : Result := .next (stopHose tag hose s)

/-- HOSE_STATUS (R83). -/
def execHoseStatus (tag : Byte) (hose : Nat) (s : State) : Result := .next (hoseStatus tag hose s)

/-- ARM_DISPENSER (R47). -/
def execArmDispenser (tag : Byte) (disp minutes : Nat) (s : State) : Result :=
  .next (armDispenser tag disp minutes s)

/-- LOAD_CREDENTIAL (R135). -/
def execLoadCredential (tag : Byte) (index : Nat) (desc : CredItems) (allowance : Nat) (s : State) : Result :=
  .next (loadCredential tag index desc allowance s)

/-- ADD_ALLOWANCE (R136). -/
def execAddAllowance (tag : Byte) (index amount : Nat) (s : State) : Result :=
  .next (addAllowance tag index amount s)

/-- SUSPEND (R137). -/
def execSuspend (tag : Byte) (index : Nat) (s : State) : Result := .next (suspend tag index s)

/-- RESUME (R137). -/
def execResume (tag : Byte) (index : Nat) (s : State) : Result := .next (resume tag index s)

/-- DELETE (R138). -/
def execDelete (tag : Byte) (index : Nat) (s : State) : Result := .next (delete tag index s)

/-- READ_CREDENTIAL (R145). -/
def execReadCredential (tag : Byte) (index : Nat) (s : State) : Result := .next (readCredential tag index s)

/-- APPEND_ORDER (R120). -/
def execAppendOrder (tag : Byte) (order : OrderItems) (s : State) : Result := .next (appendOrder tag order s)

/-- SPLICE_ORDER (R121). -/
def execSpliceOrder (tag : Byte) (order : OrderItems) (k : Nat) (s : State) : Result :=
  .next (spliceOrder tag order k s)

/-- WITHDRAW_ORDER (R122). -/
def execWithdrawOrder (tag : Byte) (busId : Nat) (s : State) : Result := .next (withdrawOrder tag busId s)

/-- READ_QUEUE (R123). -/
def execReadQueue (tag : Byte) (start : Nat) (s : State) : Result := .next (readQueue tag start s)

/-- LOAD_TARIFF (R149). -/
def execLoadTariff (tag : Byte) (periods : List PeriodItems) (s : State) : Result := .next (tariffReq tag periods s)

/-- READ_TICKETS (R155). -/
def execReadTickets (tag : Byte) (start : Nat) (s : State) : Result := .next (readTickets tag start s)

/-- RELEASE_TICKETS (R156). -/
def execReleaseTickets (tag : Byte) (number : Nat) (s : State) : Result := .next (releaseTickets tag number s)

/-- READ_BATCHES (R162). -/
def execReadBatches (tag : Byte) (start : Nat) (s : State) : Result := .next (readBatches tag start s)

/-- RELEASE_BATCHES (R162). -/
def execReleaseBatches (tag : Byte) (number : Nat) (s : State) : Result := .next (releaseBatches tag number s)

/-- FLUSH_BATCHES (R161). -/
def execFlushBatches (tag : Byte) (s : State) : Result := .next (flushBatches tag s)

/-- BANK_STATUS (R36). -/
def execBankStatus (tag : Byte) (s : State) : Result := .next (bankStatus tag s)

/-- ISOLATE_BANK (R16). -/
def execIsolateBank (tag : Byte) (bank : Nat) (s : State) : Result := .next (isolateBank tag bank s)

/-- RESTORE_BANK (R17). -/
def execRestoreBank (tag : Byte) (bank : Nat) (s : State) : Result := .next (restoreBank tag bank s)

/-- COMPRESSOR_ENABLE (R27). -/
def execCompressorEnable (tag : Byte) (comp : Nat) (s : State) : Result := .next (compEnable tag comp s)

/-- COMPRESSOR_DISABLE (R32). -/
def execCompressorDisable (tag : Byte) (comp : Nat) (s : State) : Result := .next (compDisable tag comp s)

/-- COMPRESSOR_CLEAR (R33). -/
def execCompressorClear (tag : Byte) (comp : Nat) (s : State) : Result := .next (compClear tag comp s)

/-- CHILLER_STATUS (R54). -/
def execChillerStatus (tag : Byte) (s : State) : Result := .next (chillerStatus tag s)

/-- CLEAR_STAGE (R38). -/
def execClearStage (tag : Byte) (stage : Nat) (s : State) : Result := .next (clearStage tag stage s)

/-- POINT_STATUS (R175). -/
def execPointStatus (tag : Byte) (unit point : Nat) (s : State) : Result := .next (pointStatus tag unit point s)

/-- DRIVE_POINT (R170). -/
def execDrivePoint (tag : Byte) (unit point value : Nat) (s : State) : Result :=
  .next (drivePoint tag unit point value s)

/-- RELEASE_POINT (R170). -/
def execReleasePoint (tag : Byte) (unit point : Nat) (s : State) : Result := .next (releasePoint tag unit point s)

/-- ACK_EVENT (R172). -/
def execAckEvent (tag : Byte) (unit point : Nat) (s : State) : Result := .next (ackEvent tag unit point s)

/-- CLOCK_ADVANCE (R147). -/
def execClockAdvance (s : State) : Result := .next (clockSecond s)

/-- RAW_LEVEL (R171). -/
def execRawLevel (p : SwitchPoint) (level : Nat) (s : State) : Result := .next (rawLevel p level s)

/-- DEBOUNCE_EXPIRY (R171, R172). -/
def execDebounceExpiry (p : SwitchPoint) (s : State) : Result := .next (debounceExpiry p s)

/-- ANALOG_SAMPLE (R173). -/
def execAnalogSample (p : AnalogPoint) (inRange : Bool) (value : Nat) (s : State) : Result :=
  .next (analogSample p inRange value s)

/-- ANALOG_TIMEOUT (R173). -/
def execAnalogTimeout (p : AnalogPoint) (s : State) : Result := .next (analogTimeout p s)

/-- METER_REPORT (R174, R75). -/
def execMeterReport (d : Disp) (increment : Nat) (fault : Bool) (s : State) : Result :=
  .next (meterReport d increment fault s)

/-- METER_SILENCE_TIMEOUT (R76). -/
def execMeterSilenceTimeout (d : Disp) (s : State) : Result := .next (meterSilence d s)

/-- OBSERVED_REPORT (R168). -/
def execObservedReport (p : OutPoint) (value : Nat) (s : State) : Result := .next (observedReport p value s)

/-- TRAVEL_LIMIT_EXPIRY (R169). -/
def execTravelLimitExpiry (p : OutPoint) (s : State) : Result := .next (travelLimit p s)

/-- VEHICLE_FRAME (R107 to R111). -/
def execVehicleFrame (h : Hose) (frame : VehFrame) (s : State) : Result := .next (vehicleFrame h frame s)

/-- FRAME_AGE_EXPIRY (R110). -/
def execFrameAgeExpiry (h : Hose) (s : State) : Result := .next (frameAge h s)

/-- SWITCH_TIMER_EXPIRY (R23, R24). -/
def execSwitchTimerExpiry (d : Disp) (s : State) : Result := .next (switchExpiry d s)

/-- START_TIMER_EXPIRY (R29). -/
def execStartTimerExpiry (c : CompId) (s : State) : Result := .next (startExpiry c s)

/-- UNLOAD_TIMER_EXPIRY (R32). -/
def execUnloadTimerExpiry (c : CompId) (s : State) : Result := .next (unloadExpiry c s)

/-- STOPPING_TIMER_EXPIRY (R32). -/
def execStoppingTimerExpiry (c : CompId) (s : State) : Result := .next (stoppingExpiry c s)

/-- STAGE_START_TIMER_EXPIRY (R37). -/
def execStageStartTimerExpiry (x : StageId) (s : State) : Result := .next (stageStarted x s)

/-- OFF_TIMER_SATISFIED (R37). -/
def execOffTimerSatisfied (x : StageId) (s : State) : Result := .next (offSatisfied x s)

/-- BAND_TIMER_EXPIRY (R39). -/
def execBandTimerExpiry (s : State) : Result := .next (bandExpiry s)

/-- STOP_TIMER_EXPIRY (R52). -/
def execStopTimerExpiry (s : State) : Result := .next (stopExpiry s)

/-- ARM_INTERVAL_END (R47). -/
def execArmIntervalEnd (d : Disp) (s : State) : Result := .next (armEnd d s)

/-- KEEP_COLD_INTERVAL_END (R47). -/
def execKeepColdIntervalEnd (d : Disp) (s : State) : Result := .next (keepEnd d s)

/-- CLASS_SETTLE_EXPIRY (R49, R50). -/
def execClassSettleExpiry (d : Disp) (s : State) : Result := .next (classSettled d s)

/-- CLASS_STEP_TIMER_EXPIRY (R50, R91). -/
def execClassStepTimerExpiry (d : Disp) (s : State) : Result := .next (classStepExpiry d s)

/-- COUPLING_TIMEOUT (R60, R63). -/
def execCouplingTimeout (h : Hose) (s : State) : Result := .next (couplingExpiry h s)

/-- SUPPLY_WAIT_TIMEOUT (R65). -/
def execSupplyWaitTimeout (h : Hose) (s : State) : Result := .next (supplyExpiry h s)

/-- PULSE_TIMER_EXPIRY (R66). -/
def execPulseTimerExpiry (h : Hose) (s : State) : Result := .next (pulseExpiry h s)

/-- SETTLE_TIMER_EXPIRY (R66 to R68). -/
def execSettleTimerExpiry (h : Hose) (s : State) : Result := .next (settleExpiry h s)

/-- PRECOOL_WAIT_TIMEOUT (R70). -/
def execPrecoolWaitTimeout (h : Hose) (s : State) : Result := .next (precoolExpiry h s)

/-- PAUSE_TIMER_EXPIRY (R95). -/
def execPauseTimerExpiry (d : Disp) (cause : PauseCause) (s : State) : Result := .next (pauseExpiry d cause s)

/-- CORRIDOR_LOW_EXPIRY (R97). -/
def execCorridorLowExpiry (d : Disp) (s : State) : Result := .next (corridorExpiry d s)

/-- FILL_TIME_LIMIT (R101). -/
def execFillTimeLimit (d : Disp) (s : State) : Result := .next (fillExpiry d s)

/-- AFTERFLOW_COMPLETE (R73). -/
def execAfterflowComplete (d : Disp) (s : State) : Result := .next (zeroComplete d s)

/-- AFTERFLOW_TIMEOUT (R73). -/
def execAfterflowTimeout (h : Hose) (s : State) : Result := .next (afterflowExpiry h s)

/-- BATCH_TIMER_EXPIRY (R161). -/
def execBatchTimerExpiry (number : Nat) (s : State) : Result := .next (batchExpiry number s)

end Sys2Proof.Machine
end

