-- ==== Sys2Proof/Machine/Dispatch.lean ====
section
/-! DEFINITION. The dispatch: one arm for each command, one direct call of its meaning. -/

namespace Sys2Proof.Machine

/-- The effect of a command on everything but the queue of commands. -/
def exec (i : Instr) (s : State) : Host.Outcome State Fault Refusal :=
  match i with
  | .powerOn => Sys2Proof.Machine.execPowerOn s
  | .receiveFrame bytes => Sys2Proof.Machine.execReceiveFrame bytes s
  | .frameGapTimeout => Sys2Proof.Machine.execFrameGapTimeout s
  | .transmitNextFrame => Sys2Proof.Machine.execTransmitNextFrame s
  | .stationStatus tag => Sys2Proof.Machine.execStationStatus tag s
  | .setClock tag day second => Sys2Proof.Machine.execSetClock tag day second s
  | .configure tag id unit point value => Sys2Proof.Machine.execConfigure tag id unit point value s
  | .readConfiguration tag id unit point => Sys2Proof.Machine.execReadConfiguration tag id unit point s
  | .openStation tag => Sys2Proof.Machine.execOpenStation tag s
  | .closeStation tag kind => Sys2Proof.Machine.execCloseStation tag kind s
  | .park tag disp => Sys2Proof.Machine.execPark tag disp s
  | .unpark tag disp => Sys2Proof.Machine.execUnpark tag disp s
  | .setHold tag => Sys2Proof.Machine.execSetHold tag s
  | .releaseHold tag => Sys2Proof.Machine.execReleaseHold tag s
  | .setTrip tag => Sys2Proof.Machine.execSetTrip tag s
  | .resetTrip tag => Sys2Proof.Machine.execResetTrip tag s
  | .restart tag => Sys2Proof.Machine.execRestart tag s
  | .authoriseHose tag hose issuer token preset massLimit targetSoc => Sys2Proof.Machine.execAuthoriseHose tag hose issuer token preset massLimit targetSoc s
  | .authoriseByOrder tag busId hose => Sys2Proof.Machine.execAuthoriseByOrder tag busId hose s
  | .stopHose tag hose => Sys2Proof.Machine.execStopHose tag hose s
  | .hoseStatus tag hose => Sys2Proof.Machine.execHoseStatus tag hose s
  | .armDispenser tag disp minutes => Sys2Proof.Machine.execArmDispenser tag disp minutes s
  | .loadCredential tag index desc allowance => Sys2Proof.Machine.execLoadCredential tag index desc allowance s
  | .addAllowance tag index amount => Sys2Proof.Machine.execAddAllowance tag index amount s
  | .suspend tag index => Sys2Proof.Machine.execSuspend tag index s
  | .resume tag index => Sys2Proof.Machine.execResume tag index s
  | .delete tag index => Sys2Proof.Machine.execDelete tag index s
  | .readCredential tag index => Sys2Proof.Machine.execReadCredential tag index s
  | .appendOrder tag order => Sys2Proof.Machine.execAppendOrder tag order s
  | .spliceOrder tag order k => Sys2Proof.Machine.execSpliceOrder tag order k s
  | .withdrawOrder tag busId => Sys2Proof.Machine.execWithdrawOrder tag busId s
  | .readQueue tag start => Sys2Proof.Machine.execReadQueue tag start s
  | .loadTariff tag periods => Sys2Proof.Machine.execLoadTariff tag periods s
  | .readTickets tag start => Sys2Proof.Machine.execReadTickets tag start s
  | .releaseTickets tag number => Sys2Proof.Machine.execReleaseTickets tag number s
  | .readBatches tag start => Sys2Proof.Machine.execReadBatches tag start s
  | .releaseBatches tag number => Sys2Proof.Machine.execReleaseBatches tag number s
  | .flushBatches tag => Sys2Proof.Machine.execFlushBatches tag s
  | .bankStatus tag => Sys2Proof.Machine.execBankStatus tag s
  | .isolateBank tag bank => Sys2Proof.Machine.execIsolateBank tag bank s
  | .restoreBank tag bank => Sys2Proof.Machine.execRestoreBank tag bank s
  | .compressorEnable tag comp => Sys2Proof.Machine.execCompressorEnable tag comp s
  | .compressorDisable tag comp => Sys2Proof.Machine.execCompressorDisable tag comp s
  | .compressorClear tag comp => Sys2Proof.Machine.execCompressorClear tag comp s
  | .chillerStatus tag => Sys2Proof.Machine.execChillerStatus tag s
  | .clearStage tag stage => Sys2Proof.Machine.execClearStage tag stage s
  | .pointStatus tag unit point => Sys2Proof.Machine.execPointStatus tag unit point s
  | .drivePoint tag unit point value => Sys2Proof.Machine.execDrivePoint tag unit point value s
  | .releasePoint tag unit point => Sys2Proof.Machine.execReleasePoint tag unit point s
  | .ackEvent tag unit point => Sys2Proof.Machine.execAckEvent tag unit point s
  | .clockAdvance => Sys2Proof.Machine.execClockAdvance s
  | .rawLevel p level => Sys2Proof.Machine.execRawLevel p level s
  | .debounceExpiry p => Sys2Proof.Machine.execDebounceExpiry p s
  | .analogSample p inRange value => Sys2Proof.Machine.execAnalogSample p inRange value s
  | .analogTimeout p => Sys2Proof.Machine.execAnalogTimeout p s
  | .meterReport d increment fault => Sys2Proof.Machine.execMeterReport d increment fault s
  | .meterSilenceTimeout d => Sys2Proof.Machine.execMeterSilenceTimeout d s
  | .observedReport p value => Sys2Proof.Machine.execObservedReport p value s
  | .travelLimitExpiry p => Sys2Proof.Machine.execTravelLimitExpiry p s
  | .vehicleFrame h frame => Sys2Proof.Machine.execVehicleFrame h frame s
  | .frameAgeExpiry h => Sys2Proof.Machine.execFrameAgeExpiry h s
  | .switchTimerExpiry d => Sys2Proof.Machine.execSwitchTimerExpiry d s
  | .startTimerExpiry c => Sys2Proof.Machine.execStartTimerExpiry c s
  | .unloadTimerExpiry c => Sys2Proof.Machine.execUnloadTimerExpiry c s
  | .stoppingTimerExpiry c => Sys2Proof.Machine.execStoppingTimerExpiry c s
  | .stageStartTimerExpiry x => Sys2Proof.Machine.execStageStartTimerExpiry x s
  | .offTimerSatisfied x => Sys2Proof.Machine.execOffTimerSatisfied x s
  | .bandTimerExpiry => Sys2Proof.Machine.execBandTimerExpiry s
  | .stopTimerExpiry => Sys2Proof.Machine.execStopTimerExpiry s
  | .armIntervalEnd d => Sys2Proof.Machine.execArmIntervalEnd d s
  | .keepColdIntervalEnd d => Sys2Proof.Machine.execKeepColdIntervalEnd d s
  | .classSettleExpiry d => Sys2Proof.Machine.execClassSettleExpiry d s
  | .classStepTimerExpiry d => Sys2Proof.Machine.execClassStepTimerExpiry d s
  | .couplingTimeout h => Sys2Proof.Machine.execCouplingTimeout h s
  | .supplyWaitTimeout h => Sys2Proof.Machine.execSupplyWaitTimeout h s
  | .pulseTimerExpiry h => Sys2Proof.Machine.execPulseTimerExpiry h s
  | .settleTimerExpiry h => Sys2Proof.Machine.execSettleTimerExpiry h s
  | .precoolWaitTimeout h => Sys2Proof.Machine.execPrecoolWaitTimeout h s
  | .pauseTimerExpiry d cause => Sys2Proof.Machine.execPauseTimerExpiry d cause s
  | .corridorLowExpiry d => Sys2Proof.Machine.execCorridorLowExpiry d s
  | .fillTimeLimit d => Sys2Proof.Machine.execFillTimeLimit d s
  | .afterflowComplete d => Sys2Proof.Machine.execAfterflowComplete d s
  | .afterflowTimeout h => Sys2Proof.Machine.execAfterflowTimeout h s
  | .batchTimerExpiry number => Sys2Proof.Machine.execBatchTimerExpiry number s

end Sys2Proof.Machine
end

