-- ==== Sys2Proof/Machine/Tick.lean ====
section
/-! DEFINITION. One millisecond in which no command waits (assumption 2): every timer that runs advances by 1 ms, and the
expiries that have then become due are taken one after another. -/

namespace Sys2Proof.Machine

/-! ## Advancing the timers -/

/-- One millisecond on a timer that runs. -/
def Timer.tick (t : Timer) : Timer := if t.running then { t with ms := t.ms + 1 } else t

/-- One millisecond on a time remaining. -/
def countDown (t : Option Nat) : Option Nat := t.map fun n => n - 1

/-- One millisecond on an age, held at the top of its 4 bytes. -/
def older (ms : Nat) : Nat := min 4294967295 (ms + 1)

/-- One millisecond on a time that runs under a condition. -/
def runIf (b : Bool) (ms : Nat) : Nat := if b then ms + 1 else ms

/-- One millisecond on a switch or level: the debounce timer runs while a candidate is held (R171). -/
def SwitchRec.tick (r : SwitchRec) : SwitchRec := { r with debounceMs := runIf r.candidate.isSome r.debounceMs }

/-- One millisecond on an output: the travel timer runs in TRAVELLING where the readback is judged (R168). -/
def OutRec.tick (r : OutRec) (judged : Bool) : OutRec :=
  { r with travelMs := runIf (judged && decide (r.readback = .travelling)) r.travelMs }

/-- One millisecond on an analog point: the sample age, counted from power-on before the first
sample (the model's choice, assumption 5). -/
def AnalogRec.tick (r : AnalogRec) : AnalogRec := { r with ageMs := older r.ageMs }

/-- One millisecond on a meter point: the report age, counted from power-on before the first report
(the model's choice, assumption 5). -/
def MeterRec.tick (r : MeterRec) : MeterRec := { r with ageMs := older r.ageMs }

/-- One millisecond on a receiver: the frame age runs while a valid frame is held (R109). -/
def Receiver.tick (r : Receiver) : Receiver := { r with ageMs := if r.frame.isSome then older r.ageMs else r.ageMs }

/-- One millisecond on a compressor: the timer of its state (R29, R32). -/
def CompRec.tick (r : CompRec) : CompRec :=
  { r with startMs := runIf (r.state = .starting) r.startMs
           unloadMs := runIf (r.state = .unloaded) r.unloadMs
           stoppingMs := runIf (r.state = .stopping) r.stoppingMs }

/-- One millisecond on a stage: the start timer in STARTING, the off timer in OFF until it is satisfied (R37). -/
def StageRec.tick (r : StageRec) : StageRec :=
  { r with startMs := runIf (r.state = .starting) r.startMs
           offMs := runIf (decide (r.state = .off) && decide (r.offMs < 60000)) r.offMs }

/-- One millisecond on the pause timers of the causes present (R94). -/
def Pauses.tick (x : Pauses) : Pauses :=
  ⟨x.hold.map (· + 1), x.vehicleHalt.map (· + 1), x.supply.map (· + 1), x.bankSwitch.map (· + 1),
    x.corridorHigh.map (· + 1)⟩

/-- One millisecond on a ramp record: the ramp clock, the corridor-low time, the pause timers and the fill time of a running
fill (R90, R94, R97, R101). -/
def RampRec.tick (r : RampRec) : RampRec :=
  if r.running then
    { r with clockMs := runIf r.clockRuns r.clockMs, lowMs := runIf r.lowHold r.lowMs, pauses := r.pauses.tick
             fillMs := r.fillMs + 1 }
  else r

/-- One millisecond on a session's timers. -/
def Session.tick (x : Session) : Session :=
  { x with coupling := x.coupling.tick, supplyWait := x.supplyWait.tick, pulse := x.pulse.tick
           settle := x.settle.tick, precoolWait := x.precoolWait.tick, afterflow := x.afterflow.tick }

/-- One millisecond on a dispenser context. -/
def DispCtx.tick (c : DispCtx) : DispCtx :=
  { c with silence := c.silence.tick, switchT := c.switchT.tick, ramp := c.ramp.map RampRec.tick }

/-- One millisecond on the timers of the plant. -/
def Plant.advance (p : Plant) : Plant :=
  { p with
    outs := p.outs.mapId fun o r => r.tick (p.judged o)
    switches := p.switches.mapId fun _ r => r.tick
    analogs := p.analogs.mapRec AnalogRec.tick
    meters := p.meters.mapId fun _ r => r.tick
    comps := p.comps.mapId fun _ r => r.tick
    stages := p.stages.mapId fun _ r => r.tick
    candidate := p.candidate.map fun c => (c.1, c.2 + 1)
    armT := p.armT.mapId fun _ t => countDown t
    keepT := p.keepT.mapId fun _ t => countDown t
    stopT := p.stopT.tick
    classSettle := p.classSettle.mapId fun _ t => t.tick
    classStep := p.classStep.mapId fun _ t => t.tick
    sessions := p.sessions.mapId fun _ x => x.tick
    disps := p.disps.mapId fun _ c => c.tick
    receivers := p.receivers.mapId fun _ r => r.tick }

/-- One millisecond on the timers of the office: the clock's second, the open timers of the batches, and the gap of a frame
partly received. -/
def Office.advance (o : Office) : Office :=
  { o with
    clockMs := runIf o.clock.isSome o.clockMs
    openBatches := o.openBatches.map fun b => { b with openMs := b.openMs + 1 }
    gapMs := runIf (!o.framer.isEmpty) o.gapMs }

/-! ## Taking what is due -/

/-- An expiry taken where it is due. -/
def fireIf (due : State → Bool) (f : State → State) (s : State) : State := if due s then f s else s

/-- For each unit of a list in order. -/
def forEach (xs : List α) (f : α → State → State) (s : State) : State := xs.foldl (fun s x => f x s) s

/-- A timer that runs and has reached its limit. -/
def Timer.due (t : Timer) (limit : Nat) : Bool := t.running && decide (limit ≤ t.ms)

/-- The output points. -/
def OutPoint.all : List OutPoint := Point.all.filterMap fun x => match x with | .out o => some o | _ => none

/-- The switch and level points. -/
def SwitchPoint.all : List SwitchPoint := Point.all.filterMap fun x => match x with | .switch o => some o | _ => none

/-- The analog points. -/
def AnalogPoint.all : List AnalogPoint := Point.all.filterMap fun x => match x with | .analog o => some o | _ => none

/-- The expiries of the field points, meters and receivers (R76, R110, R169, R171, R173). A timer that a CONFIGURE has left
above its new limit expires here, at the next idle millisecond: the model's choice (assumption 2). -/
def fireField (s : State) : State :=
  let s := forEach SwitchPoint.all (fun x => fireIf (fun s =>
    let r := s.plant.switches.get x
    r.candidate.isSome && decide (r.debounceTime ≤ r.debounceMs)) (debounceExpiry x)) s
  let s := forEach AnalogPoint.all (fun x => fireIf (fun s =>
    let r := s.plant.analogs.get x
    r.valid && decide (1000 ≤ r.ageMs)) (analogTimeout x)) s
  let s := forEach OutPoint.all (fun o => fireIf (fun s =>
    let r := s.plant.outs.get o
    s.plant.judged o && decide (r.readback = .travelling) && decide (r.travelLimit ≤ r.travelMs)) (travelLimit o)) s
  let s := forEach Disp.all (fun d => fireIf (fun s => (s.plant.disps.get d).silence.due 1000) (meterSilence d)) s
  forEach Hose.all (fun h => fireIf (fun s => (s.plant.receivers.get h).ageMs = 1000) (frameAge h)) s

/-- The expiries of the supply and of the precooling (R23, R29, R32, R37, R39, R47, R50, R52), the off timers as they become
satisfied. -/
def fireGas (before : Plant) (s : State) : State :=
  let s := forEach Disp.all (fun d => fireIf (fun s => (s.plant.disps.get d).switchT.due 3000) (switchExpiry d)) s
  let s := forEach CompId.all (fun c => fireIf (fun s =>
    let r := s.plant.comps.get c
    decide (r.state = .starting) && decide (20000 ≤ r.startMs)) (startExpiry c)) s
  let s := forEach CompId.all (fun c => fireIf (fun s =>
    let r := s.plant.comps.get c
    decide (r.state = .unloaded) && decide (120000 ≤ r.unloadMs)) (unloadExpiry c)) s
  let s := forEach CompId.all (fun c => fireIf (fun s =>
    let r := s.plant.comps.get c
    decide (r.state = .stopping) && decide (10000 ≤ r.stoppingMs)) (stoppingExpiry c)) s
  let s := forEach StageId.all (fun x => fireIf (fun s =>
    let r := s.plant.stages.get x
    decide (r.state = .starting) && decide (30000 ≤ r.startMs)) (stageStarted x)) s
  let s := forEach StageId.all (fun x => fireIf (fun s =>
    let r := s.plant.stages.get x
    decide (r.state = .off) && decide (60000 ≤ r.offMs) && decide ((before.stages.get x).offMs < 60000))
    (offSatisfied x)) s
  let s := fireIf (fun s => match s.plant.candidate with | some c => decide (60000 ≤ c.2) | none => false) bandExpiry s
  let s := fireIf (fun s => s.plant.stopT.due 300000) stopExpiry s
  let s := forEach Disp.all (fun d => fireIf (fun s => s.plant.armT.get d = some 0) (armEnd d)) s
  let s := forEach Disp.all (fun d => fireIf (fun s => s.plant.keepT.get d = some 0) (keepEnd d)) s
  let s := forEach Disp.all (fun d => fireIf (fun s => (s.plant.classSettle.get d).due 30000) (classSettled d)) s
  forEach Disp.all (fun d => fireIf (fun s => (s.plant.classStep.get d).due 10000) (classStepExpiry d)) s

/-- Whether a pause of a running fill has reached its limit (R95). -/
def Plant.pauseDue (p : Plant) (d : Disp) (c : PauseCause) : Bool :=
  match p.runningRamp d, pauseLimit c with
  | some r, some l => (match r.pauses.get c with | some t => decide (l.1 ≤ t) | none => false)
  | _, _ => false

/-- Whether a test holds of the running fill of a dispenser. -/
def Plant.rampDue (p : Plant) (d : Disp) (f : RampRec → Bool) : Bool :=
  match p.runningRamp d with
  | some r => f r
  | none => false

/-- The expiries of the sessions and of the fills (R60, R65, R66, R70, R73, R95, R97, R101). DESIGN CHOICE (assumption 2):
the timers of the sessions, then the limits of the ramps in this order, then the afterflow. -/
def fireSessions (s : State) : State :=
  let timer := fun (f : Session → Timer) (limit : Nat) (act : Hose → State → State) =>
    forEach Hose.all fun h => fireIf (fun s => (f (s.plant.sessions.get h)).due limit) (act h)
  let s := timer (fun x => x.coupling) 120000 couplingExpiry s
  let s := timer (fun x => x.supplyWait) 90000 supplyExpiry s
  let s := timer (fun x => x.pulse) 3000 pulseExpiry s
  let s := timer (fun x => x.settle) 5000 settleExpiry s
  let s := timer (fun x => x.precoolWait) 60000 precoolExpiry s
  let s := forEach Disp.all (fun d => forEach [.hold, .vehicleHalt, .supply, .corridorHigh] (fun c =>
    fireIf (fun s => s.plant.pauseDue d c) (pauseExpiry d c))) s
  let s := forEach Disp.all (fun d => fireIf (fun s => s.plant.rampDue d fun r =>
    r.lowHold && decide (120000 ≤ r.lowMs)) (corridorExpiry d)) s
  let s := forEach Disp.all (fun d => fireIf (fun s => s.plant.rampDue d fun r =>
    decide (r.limitS * 1000 ≤ r.fillMs)) (fillExpiry d)) s
  timer (fun x => x.afterflow) 3000 afterflowExpiry s

/-- The events of the clock, the batches and the link (R147, R161, R186). -/
def fireOffice (s : State) : State :=
  let s := fireIf (fun s => s.office.clock.isSome && decide (1000 ≤ s.office.clockMs)) clockSecond s
  let late := s.office.openBatches.filter fun b => b.limitMin * 60000 ≤ b.openMs
  let s := forEach late (fun b => fireIf (fun s => s.office.openBatches.any fun x => x.number = b.number)
    (batchExpiry b.number)) s
  fireIf (fun s => !s.office.framer.isEmpty && decide (20 ≤ s.office.gapMs)) gapTimeout s

/-- One millisecond. DESIGN CHOICE (assumption 2): the expiries due together are taken in this order. -/
def tick (s : State) : State :=
  fireOffice (fireSessions (fireGas s.plant (fireField
    { s with plant := s.plant.advance, office := s.office.advance })))

end Sys2Proof.Machine
end

