-- ==== Sys2Proof/Safety.lean ====
section
/-! DEFINITION. What a safe state is: the rules of the manual that hold at every moment of a run, one predicate each, all of
them decidable; and `Settled`, which says what the settling of an event leaves as it was. -/

namespace Sys2Proof.Machine

/-! ## Money -/

/-- R134 of one entry: the allowance loaded is the sum of what remains, what is held open and what is consumed. -/
def Cred.balanced (c : Cred) : Bool := c.loaded = c.remaining + c.openHolds + c.consumed

/-- R134 of every entry. -/
def Office.balanced (o : Office) : Bool := o.creds.all fun e => e.2.balanced

/-- Whether the indices of a list of entries rise strictly from above a bound and stay within the table. -/
def credsFrom : Nat → List (Nat × Cred) → Bool
  | _, [] => true
  | lo, e :: cs => decide (lo ≤ e.1) && decide (e.1 < Config.credentialEntries) && credsFrom (e.1 + 1) cs

/-- The credential table is in its canonical form: one entry for an index at most, within 0 to 511, in rising order. -/
def Office.tableForm (o : Office) : Bool := credsFrom 0 o.creds

/-! ## Places -/

/-- Every queue and log is within its places (R119, R152, R157, R187, R189). -/
def State.bounded (s : State) : Bool :=
  decide (s.office.replies.length ≤ Config.replyPlaces) && decide (s.plant.notices.length ≤ Config.noticePlaces)
    && decide (s.office.queue.length ≤ Config.orderPlaces)
    && decide (s.office.openTickets.length + s.office.finalised.length ≤ Config.ticketPlaces)
    && decide (s.office.openBatches.length ≤ Config.batchContexts)
    && decide (s.office.openBatches.length + s.office.closedBatches.length ≤ Config.batchPlaces)

/-! ## Field points and conditions -/

/-- Every output is commanded to the value of its effective owner, and to its fail-safe value where it has none (R166). -/
def Plant.outputsFollow (p : Plant) : Prop :=
  ∀ o, (p.outs.get o).commanded = (p.outs.get o).chosen (p.maint o) (failSafe o)

/-- Every output carries a SAFETY claim with its fail-safe value while TRIP is true, and none while it is false (R166). -/
def Plant.safetyFollows (p : Plant) : Prop :=
  ∀ o, (p.outs.get o).safety = if p.trip then some (failSafe o) else none

/-- HOLD is true exactly while a HOLD source is asserted, and TRIP is true while a TRIP source is (R181, R182). -/
abbrev Plant.conditionsFormed (p : Plant) : Prop :=
  p.hold = p.holdSource ∧ ((p.fieldTrip = true ∨ p.hostTrip = true) → p.trip = true)

/-! ## Supply and precooling -/

/-- An ISOLATED bank has no drawer and no filler (R16). -/
def Plant.isolatedEmpty (p : Plant) : Prop :=
  ∀ k, (p.banks.get k).causes.any = true → (p.banks.get k).drawn = false ∧ (p.banks.get k).filler = none

/-- A compressor is the filler of a bank exactly while it is LOADED with it (R15, R30). -/
def Plant.fillersLoad (p : Plant) : Prop :=
  ∀ k c, (p.banks.get k).filler = some c ↔ (p.comps.get c).state = .loaded k

/-- The pressures of each bank stand in their order: the floor at or below the refill-start pressure, and that at or below
the max pressure (R13). -/
def Plant.pressuresOrdered (p : Plant) : Prop :=
  ∀ k, (p.banks.get k).floorP ≤ (p.banks.get k).refill ∧ (p.banks.get k).refill ≤ (p.banks.get k).maxP

/-- Each bank record holds the usable inventory of its samples and its configuration, and 0 without both samples (R14). -/
def Plant.inventoriesHeld (p : Plant) : Prop := ∀ k, (p.banks.get k).inventory = (p.banks.get k).reckoned.inventory

/-- The granted demands of a list. -/
def grantedDemand (rs : List Request) : Nat := demandSum (fun r => r.granted) rs

/-- The classes of a grant list stand in their order (R41). -/
def inClassOrder (rs : List Request) : Prop := rs.Pairwise fun a b => a.cls.place ≤ b.cls.place

/-- A holder has one request at most (R41). -/
def onePerHolder (rs : List Request) : Prop := rs.Pairwise fun a b => a.who ≠ b.who

/-- The grant list is in its order, with one request of a holder at most, and grants no more than the capacity of the
loop (R40 to R42). -/
def Plant.grantsSound (p : Plant) : Prop :=
  inClassOrder p.grants ∧ onePerHolder p.grants ∧ grantedDemand p.grants ≤ p.capacity

/-! ## Sessions and the depot -/

/-- At most one hose of a dispenser is in a flowing state (R56). -/
def Plant.oneActive (p : Plant) : Prop :=
  ∀ d : Disp, ((p.sessState d.hoseA).flowing && (p.sessState d.hoseB).flowing) = false

/-- The session of an absent hose is IDLE (R2, R55). -/
def Plant.absentIdle (p : Plant) : Prop := ∀ h, p.present h = false → p.sessState h = .idle

/-- The window demand and the depot reports stand at the receiving blocks as the queue gives them (R125, R126). -/
def State.windowPassed (s : State) : Prop :=
  s.plant.windowDemand = s.office.windowDemand ∧ ∀ d, s.plant.reports.get d = s.office.report d

/-- A state in which every rule above holds. -/
structure Safe (s : State) : Prop where
  balanced : s.office.balanced = true
  tableForm : s.office.tableForm = true
  bounded : s.bounded = true
  outputs : s.plant.outputsFollow
  safety : s.plant.safetyFollows
  conditions : s.plant.conditionsFormed
  isolated : s.plant.isolatedEmpty
  fillers : s.plant.fillersLoad
  pressures : s.plant.pressuresOrdered
  inventories : s.plant.inventoriesHeld
  grants : s.plant.grantsSound
  oneActive : s.plant.oneActive
  absent : s.plant.absentIdle
  window : s.windowPassed

/-! ## What the settling of an event leaves as it was -/

/-- What a session has on paper: what it was authorised with, heard and metered. -/
structure Paper where
  cred : Option Nat
  order : Option (Nat × Nat)
  ticket : Option Nat
  price : Option Nat
  periodId : Option Nat
  hold : Option Nat
  massLimit : Option Nat
  targetSoc : Option Nat
  comm : Option CommMode
  initialP : Option Nat
  startSoc : Option Nat
  lastSoc : Option Nat
  startFrame : Option VehFrame
  socFrame : Option VehFrame
  verified : Nat
  unverified : Nat
  tainted : Bool
deriving DecidableEq, Repr

/-- The paper of a session. -/
def Session.paper (x : Session) : Paper :=
  ⟨x.cred, x.order, x.ticket, x.price, x.periodId, x.hold, x.massLimit, x.targetSoc, x.comm, x.initialP, x.startSoc,
    x.lastSoc, x.startFrame, x.socFrame, x.verified, x.unverified, x.tainted⟩

/-- What a bank is by its configuration, its samples and its isolation causes. -/
structure BankPaper where
  tier : Tier
  volume : Nat
  maxP : Nat
  refill : Nat
  floorP : Nat
  pressure : Option Nat
  temperature : Option Nat
  causes : IsoCauses
  inventory : Nat
deriving DecidableEq, Repr

/-- The paper of a bank: all of its record but its drawers and its filler. -/
def BankRec.paper (b : BankRec) : BankPaper :=
  ⟨b.tier, b.volume, b.maxP, b.refill, b.floorP, b.pressure, b.temperature, b.causes, b.inventory⟩

/-- What the settling of an event leaves as it was in the plant. -/
structure Plant.Settled (p q : Plant) : Prop where
  hostHold : q.hostHold = p.hostHold
  hostTrip : q.hostTrip = p.hostTrip
  hold : q.hold = p.hold
  trip : q.trip = p.trip
  cfg : q.cfg = p.cfg
  grade : q.grade = p.grade
  derate : q.derate = p.derate
  switches : q.switches = p.switches
  analogs : q.analogs = p.analogs
  meters : q.meters = p.meters
  windowDemand : q.windowDemand = p.windowDemand
  band : q.band = p.band
  candidate : q.candidate = p.candidate
  reports : q.reports = p.reports
  measured : q.measured = p.measured
  receivers : q.receivers = p.receivers
  bankPaper : ∀ k, (q.banks.get k).paper = (p.banks.get k).paper
  sessionPaper : ∀ h, (q.sessions.get h).paper = (p.sessions.get h).paper
  depotMode : ∀ d, (q.disps.get d).depotMode = (p.disps.get d).depotMode
  safety : ∀ o, (q.outs.get o).safety = (p.outs.get o).safety
  manual : ∀ o, (q.outs.get o).manual = (p.outs.get o).manual
  observed : ∀ o, (q.outs.get o).observed = (p.outs.get o).observed
  travelLimit : ∀ o, (q.outs.get o).travelLimit = (p.outs.get o).travelLimit
  enabled : ∀ c, (q.comps.get c).enabled = (p.comps.get c).enabled

/-- What the settling of an event leaves as it was in the office, the reply queue apart. -/
structure Office.Settled (o q : Office) : Prop where
  clock : q.clock = o.clock
  clockMs : q.clockMs = o.clockMs
  tariff : q.tariff = o.tariff
  periodId : q.periodId = o.periodId
  creds : q.creds = o.creds
  openTickets : q.openTickets = o.openTickets
  finalised : q.finalised = o.finalised
  nextTicket : q.nextTicket = o.nextTicket
  nextBatch : q.nextBatch = o.nextBatch
  batchTimer : q.batchTimer = o.batchTimer
  batchLimit : q.batchLimit = o.batchLimit
  queue : q.queue = o.queue
  bindings : q.bindings = o.bindings
  framer : q.framer = o.framer
  gapMs : q.gapMs = o.gapMs
  counts : q.counts = o.counts
  line : q.line = o.line

/-- What an event, once its command's own changes are made, leaves as it was: what every block's answer to the conditions
that then stand cannot reach. The replies are told apart, by each statement. -/
structure Settled (s t : State) : Prop where
  plant : s.plant.Settled t.plant
  office : s.office.Settled t.office
  pending : t.pending = s.pending

/-! ## How statements speak of commands -/

/-- A command answers a next state of which so much holds. -/
def Gives (i : Instr) (s : State) (post : State → Prop) : Prop := ∃ t, exec i s = .next t ∧ post t

/-- There is a place for a reply (R187). -/
abbrev State.room (s : State) : Prop := s.office.replies.length < Config.replyPlaces

/-- One reply has joined the tail of the reply queue of `s`, with the notices-lost flag of `t` (R187, R189). -/
def Replied (s t : State) (kind : Nat) (tag : Byte) (st : Status) (items : List Byte) : Prop :=
  t.office.replies = s.office.replies ++ [⟨kind, tag, st, t.plant.lost, items⟩]

/-- A command is answered with a status and items, and changes nothing else. -/
def OnlyReplies (i : Instr) (s : State) (kind : Nat) (tag : Byte) (st : Status) (items : List Byte) : Prop :=
  exec i s = .next { s with office :=
    { s.office with replies := s.office.replies ++ [⟨kind, tag, st, s.plant.lost, items⟩] } }

/-- A notice is the first that an event raises: it joins the tail of the notice queue of `s`, or is dropped with the
notices-lost flag set where 32 wait there (R189). -/
def Raised (s t : State) (n : Notice) : Prop :=
  (s.plant.notices.length < Config.noticePlaces → ∃ ns, t.plant.notices = s.plant.notices ++ n :: ns) ∧
  (Config.noticePlaces ≤ s.plant.notices.length → t.plant.notices = s.plant.notices ∧ t.plant.lost = true)

/-- Every open batch of `s` has closed with a cause at the clock value that `t` stamps it with (R160, R161). -/
def BatchesClosed (s t : State) (cause : CloseCause) : Prop :=
  t.office.openBatches = [] ∧
  t.office.closedBatches = s.office.closedBatches ++ s.office.openBatches.map fun b => ⟨b, cause, t.office.now⟩

/-- A state of a session that is not yet in PRECHECK but past IDLE. -/
def SessionState.early : SessionState → Bool
  | .lifted | .coupled | .authorised | .queued => true
  | _ => false

/-- The fill of a hose has ended and its afterflow runs (R72): the session is in ENDING with a reason, holds no bank, and
its dispenser's pressure-control valve, hose valve and inlet valves are commanded shut by their function owner. -/
structure Ended (h : Hose) (r : EndReason) (p : Plant) : Prop where
  state : p.sessState h = .ending
  reason : (p.sessions.get h).endReason = some r
  bank : (p.sessions.get h).bank = none
  pcv : (p.outs.get (.pcv h.disp)).function = some (.setpoint 0)
  hv : (p.outs.get (.hv h)).function = some (.position false)
  inlets : ∀ k, (p.outs.get (.inlet h.disp k)).function = some (.position false)

/-- The hose of a running fill, which is FILLING as the record says (R85). -/
abbrev Plant.fills (p : Plant) (d : Disp) (r : RampRec) : Prop :=
  p.runningRamp d = some r ∧ r.hose.disp = d ∧ p.sessState r.hose = .filling

/-- Where an authorisation takes the session of a hose (R59 to R61), from its dispenser's sessions, HOLD and the hose pressure
as they stood: from LIFTED to AUTHORISED with the coupling timer at zero; from COUPLED to PRECHECK where the start conditions
hold (where nX.PT is INVALID, on to ENDING with SENSOR_FAULT at that event), and else to QUEUED, with its wait reason and its
place. That the station is OPEN without TRIP and the dispenser ACTIVE, its checks have found. -/
structure Starts (h : Hose) (p q : Plant) : Prop where
  lifted : p.sessState h = .lifted → q.sessState h = .authorised ∧ (q.sessions.get h).coupling = ⟨true, 0⟩
  coupled : p.sessState h = .coupled → p.hold = false → (p.sessState h.other).flowing = false →
    ((p.analogs.get (.pt h)).valid = true → q.sessState h = .precheck) ∧
    ((p.analogs.get (.pt h)).valid = false → Ended h .sensorFault q)
  queued : p.sessState h = .coupled → p.hold = true ∨ (p.sessState h.other).flowing = true →
    q.sessState h = .queued ∧
    (q.sessions.get h).wait = some (if (p.sessState h.other).flowing then .otherHose else .hold) ∧
    (q.sessions.get h).queuePos = some (if p.sessState h.other = .queued then .second else .first)

/-- A session that has come to rest: SETTLED, or IDLE again where its nozzle was already stowed (R73, R74). -/
abbrev Plant.rests (p : Plant) (h : Hose) : Prop := (p.sessState h).atRest = true

end Sys2Proof.Machine
end

