-- ==== Sys2Proof/WellFormed.lean ====
section
/-! DEFINITION. Which commands are well formed: every number fits the field that carries it (R107, R185, R190), and what the
forecourt reports is a value its point can have. A request of the host may still name what does not exist: that is for the
part to refuse. -/

namespace Sys2Proof

/-- A number that fits so many bytes. -/
def fits (n x : Nat) : Bool := x < 256 ^ n

/-- A number that fits so many bytes, where it is present. -/
def fitsOpt (n : Nat) : Option Nat → Bool
  | none => true
  | some x => fits n x

/-- The description of LOAD CREDENTIAL fits its fields. -/
def CredItems.wf (x : CredItems) : Bool :=
  fits 1 x.state && fits 2 x.issuer && fits 8 x.token && fits 1 x.kind && fits 1 x.grades && fits 1 x.priceClass
    && fitsOpt 4 x.account && fitsOpt 4 x.massLimit && fitsOpt 4 x.amountCap && fitsOpt 2 x.expiryDay

/-- The fields of an order fit. -/
def OrderItems.wf (x : OrderItems) : Bool :=
  fits 4 x.busId && fits 2 x.credIndex && fits 2 x.targetSoc && fits 4 x.expectedMass && fits 1 x.mask
    && (match x.deadline with | some t => fits 2 t.1 && fits 4 t.2 | none => true)

/-- A period of a tariff fits. -/
def PeriodItems.wf (x : PeriodItems) : Bool :=
  fits 2 x.start && fits 4 x.p0 && fits 4 x.p1 && fits 4 x.p2 && fits 4 x.p3 && fits 4 x.p4 && fits 4 x.p5
    && fits 4 x.p6 && fits 4 x.p7

/-- A vehicle frame fits its fields. -/
def VehFrame.wf (f : VehFrame) : Bool :=
  fits 4 f.vehicleId && fits 1 f.nwp && fits 2 f.volume && fits 4 f.pressure && fits 2 f.temperature
    && fits 1 f.command && fits 2 f.check

/-- A command is well formed. -/
def Instr.wf : Instr → Bool
  | .powerOn => true
  | .receiveFrame _ => true
  | .frameGapTimeout => true
  | .transmitNextFrame => true
  | .stationStatus _ => true
  | .setClock _ d x => fits 2 d && fits 4 x
  | .configure _ i u p v => fits 1 i && fits 1 u && fits 1 p && fits 4 v
  | .readConfiguration _ i u p => fits 1 i && fits 1 u && fits 1 p
  | .openStation _ => true
  | .closeStation _ k => fits 1 k
  | .park _ d => fits 1 d
  | .unpark _ d => fits 1 d
  | .setHold _ => true
  | .releaseHold _ => true
  | .setTrip _ => true
  | .resetTrip _ => true
  | .restart _ => true
  | .authoriseHose _ h i k p m x => fits 1 h && fits 2 i && fits 8 k && fitsOpt 4 p && fitsOpt 4 m && fitsOpt 2 x
  | .authoriseByOrder _ b h => fits 4 b && fits 1 h
  | .stopHose _ h => fits 1 h
  | .hoseStatus _ h => fits 1 h
  | .armDispenser _ d m => fits 1 d && fits 1 m
  | .loadCredential _ i x a => fits 2 i && x.wf && fits 4 a
  | .addAllowance _ i x => fits 2 i && fits 4 x
  | .suspend _ i => fits 2 i
  | .resume _ i => fits 2 i
  | .delete _ i => fits 2 i
  | .readCredential _ i => fits 2 i
  | .appendOrder _ x => x.wf
  | .spliceOrder _ x k => x.wf && fits 1 k
  | .withdrawOrder _ b => fits 4 b
  | .readQueue _ n => fits 1 n
  | .loadTariff _ xs => decide (xs.length ≤ 30) && xs.all PeriodItems.wf
  | .readTickets _ n => fits 4 n
  | .releaseTickets _ n => fits 4 n
  | .readBatches _ n => fits 4 n
  | .releaseBatches _ n => fits 4 n
  | .flushBatches _ => true
  | .bankStatus _ => true
  | .isolateBank _ k => fits 1 k
  | .restoreBank _ k => fits 1 k
  | .compressorEnable _ c => fits 1 c
  | .compressorDisable _ c => fits 1 c
  | .compressorClear _ c => fits 1 c
  | .chillerStatus _ => true
  | .clearStage _ n => fits 1 n
  | .pointStatus _ u p => fits 1 u && fits 1 p
  | .drivePoint _ u p v => fits 1 u && fits 1 p && fits (if Machine.wideDrive u p then 4 else 1) v
  | .releasePoint _ u p => fits 1 u && fits 1 p
  | .ackEvent _ u p => fits 1 u && fits 1 p
  | .clockAdvance => true
  | .rawLevel p l => decide (l ≤ p.top)
  | .debounceExpiry _ => true
  | .analogSample p _ v => fits p.width v
  | .analogTimeout _ => true
  | .meterReport _ n _ => fits 4 n
  | .meterSilenceTimeout _ => true
  | .observedReport p v => if p.isSetpoint then fits 4 v else decide (v ≤ 1)
  | .travelLimitExpiry _ => true
  | .vehicleFrame _ f => f.wf
  | .frameAgeExpiry _ => true
  | .switchTimerExpiry _ => true
  | .startTimerExpiry _ => true
  | .unloadTimerExpiry _ => true
  | .stoppingTimerExpiry _ => true
  | .stageStartTimerExpiry _ => true
  | .offTimerSatisfied _ => true
  | .bandTimerExpiry => true
  | .stopTimerExpiry => true
  | .armIntervalEnd _ => true
  | .keepColdIntervalEnd _ => true
  | .classSettleExpiry _ => true
  | .classStepTimerExpiry _ => true
  | .couplingTimeout _ => true
  | .supplyWaitTimeout _ => true
  | .pulseTimerExpiry _ => true
  | .settleTimerExpiry _ => true
  | .precoolWaitTimeout _ => true
  | .pauseTimerExpiry _ _ => true
  | .corridorLowExpiry _ => true
  | .fillTimeLimit _ => true
  | .afterflowComplete _ => true
  | .afterflowTimeout _ => true
  | .batchTimerExpiry n => fits 4 n

end Sys2Proof
end

