-- ==== Sys2Proof/Certificates/Slice0/Obligations.lean ====
section
/-! DEFINITION. The statements for the provers. `Gives i s post` says that the command answers a next state of which `post`
holds; `Settled a t` says that `t` is `a` in everything the settling of an event cannot reach, so that with `a` written out
from `s` it says both what the command writes and what it leaves as it was. -/

open Sys2Proof Sys2Proof.Machine

/-! ## Arithmetic and choices -/

/-- R3 and R6: the corrected temperature and the state of charge, with the bounds those rules give; and beside them the
quantity, the mass and the usable inventory by the formulas of the rules R4, R7 and R8 (the bounds R4 and R7 state of
their results are not claimed: assumption 8). -/
def Obligations.GasStages : Prop :=
  (∀ p t, gasD p t = clamp 2000 3730 t + clamp 0 100000 p * 37 / 2000 ∧ 2000 ≤ gasD p t ∧ gasD p t ≤ 5580) ∧
  gasD 0 2000 = 2000 ∧ gasD 100000 3730 = 5580 ∧ gasD 65000 2000 = 2000 + 1202 ∧
  (∀ g p t, soc g p t = min 1000 (gasN p t * 1000 / (if g = .h70 then 1098807 else 650343)) ∧ soc g p t ≤ 1000 ∧
    (gasN p t * 1000 < gasNref g → soc g p t = 0) ∧ (gasNref g ≤ gasN p t → soc g p t = 1000) ∧ soc g 0 t = 0) ∧
  (∀ p t, gasN p t = clamp 0 100000 p * 65536 / gasD p t ∧ gasN 0 t = 0) ∧
  (∀ p t v, gasMass p t v = gasN p t * clamp 1 20000 v * 37 / 1000000 ∧ gasMass 0 t v = 0) ∧
  ∀ p t v f, (p ≤ f → usableInventory p t v f = 0) ∧ usableInventory 0 t v f = 0 ∧
    (f < p → (usableInventory p t v f : Int) = max 0 ((gasMass p t v : Int) - gasMass f t v))

/-- R146: the amount of a price and a mass, its bound, and its rounding. -/
def Obligations.AmountRounds : Prop :=
  ∀ p m, billAmount p m = (p * m + 5000) / 10000 ∧ (p = 0 ∨ m = 0 → billAmount p m = 0) ∧
    (p ≤ 999999 → m ≤ 200000 → billAmount p m ≤ 20000000) ∧
    10000 * billAmount p m ≤ p * m + 5000 ∧ p * m + 5000 < 10000 * billAmount p m + 10000

/-- R104: the order of the end reasons, and the reason recorded where an event meets several. -/
def Obligations.ReasonPrecedence : Prop :=
  [EndReason.stationTrip, .overpressure, .overtemp, .breakaway, .decoupled, .sensorFault, .valveFault, .meterFault,
    .leak, .vehicleAbort, .restart, .stationClose, .hostStop, .allowance, .massLimit, .targetSoc, .targetPressure,
    .timeLimit, .corridorHigh, .corridorLow, .stationHold, .vehicleHalt, .supplyExhausted, .precoolLost,
    .precoolUnavailable, .tankEmpty, .cancelled].map EndReason.place = List.range 27 ∧
  ∀ rs r, firstReason rs = some r ↔ r ∈ rs ∧ ∀ q ∈ rs, r.place ≤ q.place

/-- R18, R19: a bank request is answered with an eligible bank before which no eligible bank ranks, the lower bank number
where two rank alike, and with none exactly where no bank is eligible. -/
def Obligations.BankAnswerRanks : Prop :=
  ∀ (p : Plant) (d : Disp) (g : Grade) (n : Nat) (x : Tier),
    (p.bankAnswer d g n x = none ↔ ∀ k, p.eligible d g n k = false) ∧
    ∀ k, p.bankAnswer d g n x = some k →
      p.eligible d g n k = true ∧ ∀ j, p.eligible d g n j = true → p.ranksBefore g x j k = false ∧
        (j ≠ k → p.ranksBefore g x k j = false → k.number < j.number)

/-- R42: each request of the grant list is granted exactly where its demand fits what the granted requests before it leave
of the capacity, and the granted demands never exceed the capacity. -/
def Obligations.GrantWalk : Prop :=
  ∀ (room : Nat) (as bs : List Request) (r : Request),
    (walk room (as ++ r :: bs))[as.length]? =
      some { r with granted := decide (grantedDemand (walk room as) + r.demand ≤ room) } ∧
    grantedDemand (walk room as) ≤ room

/-! ## The step and the queue of commands -/

/-- A step takes the command at the front of the queue, which acts with the queue's rest. -/
def Obligations.StepTakesFront : Prop :=
  ∀ (c : Instr) (cs : List Instr) (s : State), s.pending = c :: cs → step s = exec c { s with pending := cs }

/-- Every command answers a next state, and none changes the queue of commands; power-on leaves the power-on values and
the queue. That POWER ON keeps the commands that wait (assumption 1), that it raises no notice (assumption 4), and the
reset values the manual does not give (assumption 5) are the model's choices. -/
def Obligations.EveryCommandGoesOn : Prop :=
  (∀ (c : Instr) (s : State), Gives c s fun t => t.pending = s.pending) ∧
  ∀ s : State, exec .powerOn s = .next { State.reset with pending := s.pending }

/-- On an empty queue the part idles for one millisecond (the model's choice, assumption 2): a set clock that is not yet
due counts it, and no command appears. -/
def Obligations.IdleMillisecond : Prop :=
  ∀ s : State, s.pending = [] → ∃ t, step s = .next t ∧ t.pending = [] ∧
    (s.office.framer = [] → ∀ c, s.office.clock = some c → s.office.clockMs < 999 →
      t.office.clock = some c ∧ t.office.clockMs = s.office.clockMs + 1)

/-- The values after power-on that the chapters give, block by block (R13, R14, R17, R23, R27, R37, R39, R41, R46, R48,
R52, R55, R56, R85, R109, R119, R126, R133, R147, R150, R152, R157, R165, R168, R176, R186, R188, R191). -/
def Obligations.PowerOnValues : Prop :=
  let p := State.reset.plant
  let o := State.reset.office
  (p.mode = .closed ∧ p.closeKind = none ∧ p.shutdownGiven = false ∧ p.hostHold = false ∧ p.hostTrip = false ∧
    p.hold = false ∧ p.trip = false ∧ p.sources = []) ∧
  (p.cfg.keepCold = 10 ∧ p.cfg.corrUp = 5000 ∧ p.cfg.corrLow = 7000 ∧ p.cfg.margin = 30 ∧ p.cfg.limit70 = 900 ∧
    p.cfg.limit35 = 1800 ∧ o.batchTimer = 60 ∧ o.batchLimit = 500000 ∧
    (∀ h, p.grade.get h = if h = .h1A ∨ h = .h2A then some .h70 else some .h35) ∧ ∀ h, p.derate.get h = 100) ∧
  (∀ x, (p.outs.get x).safety = none ∧ (p.outs.get x).function = none ∧ (p.outs.get x).manual = none ∧
    (p.outs.get x).commanded = failSafe x ∧ (p.outs.get x).observed = none ∧
    (p.outs.get x).readback = .travelling ∧ (p.outs.get x).travelMs = 0 ∧ (p.outs.get x).travelLimit = 3000) ∧
  (∀ x, (p.switches.get x).level = none ∧ (p.switches.get x).debounceTime = 50 ∧ (p.switches.get x).flag = false ∧
    (p.switches.get x).count = 0 ∧ (p.switches.get x).edge = match x with
      | .hol _ | .cpl _ => .none
      | .gd _ | .caGd => .both
      | _ => .rising) ∧
  (∀ x, (p.analogs.get x).value = none ∧ (p.analogs.get x).valid = false) ∧
  (∀ k, (p.banks.get k).causes = ⟨false, false, true, false⟩ ∧ (p.banks.get k).state = .isolated ∧
    (p.banks.get k).drawn = false ∧ (p.banks.get k).filler = none ∧ (p.banks.get k).pressure = none ∧
    (p.banks.get k).temperature = none ∧ (p.banks.get k).inventory = 0) ∧
  (∀ k, ((p.banks.get k).tier, (p.banks.get k).volume, (p.banks.get k).maxP, (p.banks.get k).refill, (p.banks.get k).floorP) =
    match k with
    | .b1 => (.low, 3000, 50000, 40000, 10000)
    | .b2 => (.mid, 3000, 70000, 60000, 25000)
    | .b3 | .b4 => (.high, 2000, 95000, 85000, 45000)
    | .b5 | .b6 => (.bus, 6000, 50000, 42000, 10000)) ∧
  (∀ c, (p.comps.get c).state = .stopped ∧ (p.comps.get c).enabled = false ∧ (p.comps.get c).shutdown = .none ∧
    (p.comps.get c).startMs = 0 ∧ (p.comps.get c).unloadMs = 0 ∧ (p.comps.get c).stoppingMs = 0) ∧
  (∀ x, (p.stages.get x).state = .off ∧ (p.stages.get x).offMs = 0 ∧ (p.stages.get x).startMs = 0) ∧ p.band = 6 ∧
  p.candidate = none ∧ p.grants = [] ∧
  (∀ d, p.armT.get d = none ∧ p.keepT.get d = none ∧ p.measured.get d = .none ∧ (p.disps.get d).park = .active ∧
    (p.disps.get d).ramp = none ∧ (p.disps.get d).depotMode = decide (d = .d3 ∨ d = .d4)) ∧
  (p.windowDemand = 0 ∧ p.stopT = ⟨false, 0⟩ ∧ ∀ d, p.reports.get d = false ∧ p.quiet.get d = false ∧
    (p.meters.get d).last = none ∧ (p.disps.get d).zeroCount = 0 ∧ (p.disps.get d).silence = ⟨false, 0⟩ ∧
    (p.disps.get d).switchT = ⟨false, 0⟩) ∧
  (∀ h,
    let x := p.sessions.get h
    x.wait = none ∧ x.queuePos = none ∧ x.endReason = none ∧ x.cred = none ∧ x.order = none ∧ x.ticket = none ∧
    x.price = none ∧ x.periodId = none ∧ x.hold = none ∧ x.massLimit = none ∧ x.targetSoc = none ∧ x.comm = none ∧
    x.bank = none ∧ x.initialP = none ∧ x.finalP = none ∧ x.startSoc = none ∧ x.lastSoc = none ∧
    x.startFrame = none ∧ x.socFrame = none ∧ x.pulseStep = none ∧ x.pa = none ∧ x.oldInlet = none ∧
    x.classStart = none ∧ x.classEnd = none ∧ x.entered = false ∧ x.tainted = false ∧ x.verified = 0 ∧
    x.unverified = 0 ∧ [x.coupling, x.supplyWait, x.pulse, x.settle, x.precoolWait, x.afterflow].all (!·.running)) ∧
  (∀ h,
    let r := p.receivers.get h
    r.frame = none ∧ r.lastRejection = none ∧ r.ageMs = 0 ∧ r.invalidRun = 0 ∧ r.validCount = 0 ∧ r.invalidCount = 0) ∧
  (∀ h, p.sessState h = .idle ∧ (p.receivers.get h).state = .none ∧ o.bindings.get h = none ∧ o.seeks.get h = none) ∧
  (p.notices = [] ∧ p.lost = false ∧ o.replies = [] ∧ o.framer = [] ∧ o.counts = ⟨0, 0, 0, 0, 0⟩ ∧ o.clock = none ∧
    o.tariff = none ∧ o.periodId = 0 ∧ o.creds = [] ∧ o.openTickets = [] ∧ o.finalised = [] ∧ o.nextTicket = 1 ∧
    o.openBatches = [] ∧ o.closedBatches = [] ∧ o.nextBatch = 1 ∧ o.queue = []) ∧ State.reset.pending = []

/-! ## The station link -/

/-- R185 to R187: a frame with a sound check that arrives in HUNT is received and its request handled, whatever its kind,
tag and body. -/
def Obligations.FrameIsHandled : Prop :=
  ∀ (kind : Nat) (tag : Byte) (body : List Byte) (s : State),
    1 ≤ kind → kind < 0x40 → body.length ≤ 1024 → s.office.framer = [] →
      exec (.receiveFrame (linkFrame kind tag body)) s =
        .next (handle kind tag body { s with office := { s.office with gapMs := 0 } })

/-- R187, R190: every well-formed request is read back from the kind, the tag and the body it is sent with. The widths and
forms of CONFIGURE, DRIVE POINT, LOAD TARIFF and an absent optional item are the model's choice (assumption 11). -/
def Obligations.RequestReadsBack : Prop :=
  ∀ (i : Instr) (f : Sent), i.wf = true → requestFrame i = some f → parse f.kind f.tag f.body = .request i

/-- R185 to R190: a well-formed request sent over the link does what the request itself does. The bodies of CONFIGURE,
DRIVE POINT and LOAD TARIFF are the model's choice (assumption 11). -/
def Obligations.LinkRunsRequest : Prop :=
  ∀ (i : Instr) (f : Sent) (s : State), i.wf = true → requestFrame i = some f → s.office.framer = [] →
    exec (.receiveFrame (linkFrame f.kind f.tag f.body)) s =
      exec i { s with office := { s.office with gapMs := 0 } }

/-- R186: in HUNT, bytes with no marker change nothing; a frame whose length is out of range, whose check is wrong or
whose kind is no request's, with no second marker in it, is counted and discarded; 20 ms without a byte discard a frame
partly received, counted under GAP, and a sound frame that stands inside the discarded bytes is then received. That a gap
timeout in HUNT changes nothing is the model's choice (assumption 3). -/
def Obligations.FramerDiscards : Prop :=
  (∀ (b : Byte) (bs : List Byte) (s : State), s.office.framer = [] → 0x7E#8 ∉ b :: bs →
    exec (.receiveFrame (b :: bs)) s = .next { s with office := { s.office with gapMs := 0 } }) ∧
  (∀ (kind : Nat) (tag : Byte) (body : List Byte) (check : Nat) (s : State),
    let covered := u16 (body.length + 2) ++ u8 kind ++ [tag] ++ body
    body.length ≤ 1024 → check < 65536 → check ≠ (crc16 covered).toNat → 0x7E#8 ∉ covered ++ u16 check →
    s.office.framer = [] →
      exec (.receiveFrame (0x7E#8 :: (covered ++ u16 check))) s = .next { s with office := { s.office with
        gapMs := 0, counts := { s.office.counts with check := min 65535 (s.office.counts.check + 1) } } }) ∧
  (∀ (n : Nat) (s : State), n < 65536 → n < 2 ∨ 1026 < n → 0x7E#8 ∉ u16 n → s.office.framer = [] →
    exec (.receiveFrame (0x7E#8 :: u16 n)) s = .next { s with office := { s.office with
      gapMs := 0, counts := { s.office.counts with length := min 65535 (s.office.counts.length + 1) } } }) ∧
  (∀ (kind : Nat) (tag : Byte) (body : List Byte) (s : State),
    let rest := (linkFrame kind tag body).drop 1
    kind = 0 ∨ 0x40 ≤ kind → kind < 256 → body.length ≤ 1024 → 0x7E#8 ∉ rest → s.office.framer = [] →
      exec (.receiveFrame (0x7E#8 :: rest)) s = .next { s with office := { s.office with
        gapMs := 0, counts := { s.office.counts with kind := min 65535 (s.office.counts.kind + 1) } } }) ∧
  (∀ (bs : List Byte) (kind : Nat) (tag : Byte) (body : List Byte) (s : State),
    1 ≤ kind → kind < 0x40 → body.length ≤ 1024 → 0x7E#8 ∉ bs →
    s.office.framer = 0x7E#8 :: (bs ++ linkFrame kind tag body) →
      exec .frameGapTimeout s = .next (handle kind tag body { s with office := { s.office with
        gapMs := 0, framer := [], counts := { s.office.counts with gap := min 65535 (s.office.counts.gap + 1) } } })) ∧
  (∀ (bs : List Byte) (s : State), s.office.framer = 0x7E#8 :: bs → 0x7E#8 ∉ bs →
    exec .frameGapTimeout s = .next { s with office := { s.office with
      gapMs := 0, framer := [], counts := { s.office.counts with gap := min 65535 (s.office.counts.gap + 1) } } }) ∧
  ∀ s : State, s.office.framer = [] → exec .frameGapTimeout s = .next s

/-- R187 step 1: a request that finds eight replies waiting is counted under OVERRUN and does nothing else. -/
def Obligations.RequestOverrun : Prop :=
  ∀ (i : Instr) (f : Sent) (s : State), requestFrame i = some f → ¬ s.room →
    exec i s = .next { s with office := { s.office with
      counts := { s.office.counts with overrun := min 65535 (s.office.counts.overrun + 1) } } }

/-- R188, R189: the transmitter sends the head of the reply queue, and the head of the notice queue where no reply waits;
the frame leaves its queue as its sending begins. A notice joins the tail of its queue, and a 33rd is dropped and sets the
notices-lost flag; no command but power-on and the transmitter's takes a notice out of the queue, and none but power-on
and STATION STATUS (which a received frame, or the rescan at a gap, may carry) clears the flag. The events named raise the
notice of their rule; that it is the first of its event is the model's order (assumptions 6 and 26). -/
def Obligations.TransmitOrder : Prop :=
  (∀ (s : State) (r : Reply) (rs : List Reply), s.office.replies = r :: rs →
    exec .transmitNextFrame s = .next { s with office := { s.office with replies := rs, line := r.frame } }) ∧
  (∀ (s : State) (n : Notice) (ns : List Notice), s.office.replies = [] → s.plant.notices = n :: ns →
    exec .transmitNextFrame s = .next { s with
      office := { s.office with line := n.frame }, plant := { s.plant with notices := ns } }) ∧
  (∀ s : State, s.office.replies = [] → s.plant.notices = [] → exec .transmitNextFrame s = .next s) ∧
  (∀ (n : Notice) (p : Plant), notify n p = if p.notices.length < 32 then { p with notices := p.notices ++ [n] }
    else { p with lost := true }) ∧
  (∀ (c : Instr) (s t : State), c ≠ .powerOn → c ≠ .transmitNextFrame → exec c s = .next t →
    s.plant.notices <+: t.plant.notices) ∧
  (∀ (c : Instr) (s t : State), c ≠ .powerOn → (∀ tag, c ≠ .stationStatus tag) → (∀ bs, c ≠ .receiveFrame bs) →
    c ≠ .frameGapTimeout → exec c s = .next t → s.plant.lost = true → t.plant.lost = true) ∧
  (∀ (s : State) (tag : Byte), s.room → s.office.clock ≠ none → s.office.tariff ≠ none → s.plant.trip = false →
    s.plant.mode = .closed → Gives (.openStation tag) s fun t => Raised s t (.stationMode .opened none)) ∧
  (∀ (s : State) (tag : Byte) (n : Nat) (k : CloseKind), s.room → closeKindOf n = some k → s.plant.mode = .opened →
    Gives (.closeStation tag n) s fun t => Raised s t (.stationMode .closing (some k))) ∧
  (∀ (s : State) (tag : Byte), s.room → s.plant.conditionsFormed → s.plant.hold = false →
    Gives (.setHold tag) s fun t => Raised s t
      (.condition true s.plant.trip ({ s.plant with hostHold := true, hold := true } : Plant).sources)) ∧
  (∀ (s : State) (tag : Byte) (n : Nat) (h : Hose), s.room → hoseOf n = some h → s.plant.present h = true →
    (s.plant.sessState h).running = true → Gives (.stopHose tag n) s fun t =>
      Raised s t (.session h .ending (some .hostStop) (s.plant.sessions.get h).ticket)) ∧
  ∀ (s : State) (x : SwitchPoint) (o l : Nat),
    let r := s.plant.switches.get x
    r.level = some o → r.candidate = some l → r.edge.meets o l = true → r.flag = false →
      s.plant.passes x.hose = true → Gives (.debounceExpiry x) s fun t =>
        Raised s t (.pointEvent x l (min 255 (r.count + 1)))

/-! ## Requests that read -/

/-- What each reading request answers where it is taken and with what it is refused, with nothing else changed (R36, R54,
R83, R123, R145, R155, R162, R175, R192); STATION STATUS clears the notices-lost flag after its reply (R189). The codes
and layouts of the status replies that the manual leaves open are the model's choice: assumptions 10, 13 and 14, and 15
for an EMPTY credential and an absent tariff; the bytes of READ CONFIGURATION's tariff request are those of assumption 11,
and the 4 bytes of its value and the hose order of READ QUEUE's bindings those of assumptions 12 and 33. -/
def Obligations.ReadsAnswer : Prop :=
  ∀ (s : State) (tag : Byte), s.room →
    exec (.stationStatus tag) s = .next { s with
      plant := { s.plant with lost := false }
      office := { s.office with replies := s.office.replies ++ [⟨0x01, tag, .ok, s.plant.lost, stationItems s⟩] } } ∧
    (∀ id u x y, ¬ (id = 0 ∧ u = 0xF0) → settingOf id u x = some y → s.plant.settingAbsent y = false →
      OnlyReplies (.readConfiguration tag id u x) s 0x04 tag .ok (u32 (y.value s))) ∧
    (∀ x, OnlyReplies (.readConfiguration tag 0 0xF0 x) s 0x04 tag .ok (tariffItems s.office.tariff)) ∧
    (∀ n h, hoseOf n = some h → OnlyReplies (.hoseStatus tag n) s 0x13 tag .ok
      (if s.plant.present h then hoseItems s.plant h else absentItems h)) ∧
    (∀ n, n < 512 → OnlyReplies (.readCredential tag n) s 0x1D tag .ok
      (credItems (credAt n s.office.creds) ++ listItem ((openHoses s.plant n).map fun h => u8 h.byte))) ∧
    (∀ n, 1 ≤ n → n ≤ 48 → OnlyReplies (.readQueue tag n) s 0x23 tag .ok (queueItems s n)) ∧
    OnlyReplies (.readTickets tag 0) s 0x28 tag .ok (ticketsItems s.office (s.office.finalised.take 8)) ∧
    OnlyReplies (.readBatches tag 0) s 0x2A tag .ok (batchesItems s.office (s.office.closedBatches.take 8)) ∧
    OnlyReplies (.bankStatus tag) s 0x30 tag .ok (bankStatusItems s.plant) ∧
    OnlyReplies (.chillerStatus tag) s 0x34 tag .ok (chillerItems s.plant) ∧
    (∀ u n x, pointOf u n = some x → s.plant.pointAbsent x = false →
      OnlyReplies (.pointStatus tag u n) s 0x38 tag .ok (pointItems s.plant x)) ∧
    (∀ id u x, ¬ (id = 0 ∧ u = 0xF0) → settingOf id u x = none →
      OnlyReplies (.readConfiguration tag id u x) s 0x04 tag .badValue []) ∧
    (∀ id u x y, ¬ (id = 0 ∧ u = 0xF0) → settingOf id u x = some y → s.plant.settingAbsent y = true →
      OnlyReplies (.readConfiguration tag id u x) s 0x04 tag .notPresent []) ∧
    (∀ n, hoseOf n = none → OnlyReplies (.hoseStatus tag n) s 0x13 tag .badValue []) ∧
    (∀ n, 512 ≤ n → OnlyReplies (.readCredential tag n) s 0x1D tag .badValue []) ∧
    (∀ n, n = 0 ∨ 48 < n → OnlyReplies (.readQueue tag n) s 0x23 tag .badValue []) ∧
    (∀ n, n ≠ 0 → (∀ f ∈ s.office.finalised, f.base.number ≠ n) →
      OnlyReplies (.readTickets tag n) s 0x28 tag .notFound []) ∧
    (∀ old f new, s.office.finalised = old ++ f :: new → f.base.number ≠ 0 →
      (∀ g ∈ old, g.base.number ≠ f.base.number) →
      OnlyReplies (.readTickets tag f.base.number) s 0x28 tag .ok (ticketsItems s.office (new.take 8))) ∧
    (∀ n, n ≠ 0 → (∀ b ∈ s.office.closedBatches, b.batch.number ≠ n) →
      OnlyReplies (.readBatches tag n) s 0x2A tag .notFound []) ∧
    (∀ old b new, s.office.closedBatches = old ++ b :: new → b.batch.number ≠ 0 →
      (∀ g ∈ old, g.batch.number ≠ b.batch.number) →
      OnlyReplies (.readBatches tag b.batch.number) s 0x2A tag .ok (batchesItems s.office (new.take 8))) ∧
    (∀ u n, pointOf u n = none → OnlyReplies (.pointStatus tag u n) s 0x38 tag .badValue []) ∧
    ∀ u n x, pointOf u n = some x → s.plant.pointAbsent x = true →
      OnlyReplies (.pointStatus tag u n) s 0x38 tag .notPresent []

/-- The lengths the link's layouts give: a hose record of 196 bytes, a ticket record of 88, a batch record of 89 with its
twelve ticket places (12, the layouts of HOSE STATUS, READ TICKETS and READ BATCHES); and fields of each at the places the
layouts give them, most significant byte first. R106: that the pause causes stand in their byte for the record's hose in
every state of its session is read from the rules (assumption 32). -/
def Obligations.RecordLengths : Prop :=
  (∀ (p : Plant) (h : Hose), (hoseItems p h).length = 196) ∧
  (∀ t : FinalTicket, (ticketItems t).length = 88) ∧
  (∀ b : ClosedBatch, (batchItems b).length = 89) ∧
  (∀ (p : Plant) (h : Hose),
    let x := p.sessions.get h
    let at_ := numAt (hoseItems p h)
    at_ 0 1 = h.byte ∧ at_ 6 4 = hosePresence p h ∧ at_ 14 1 = x.state.code ∧
      at_ 17 1 = (match p.rampOf h with | some r => r.pauses.code | none => 0) ∧
      at_ 22 4 = x.ticket.getD 0 % 4294967296 ∧ at_ 80 4 = x.verified % 4294967296 ∧
      at_ 108 4 = x.afterflow.ms % 4294967296 ∧
      (∀ r, p.rampOf h = some r → at_ 116 2 = r.tableRate % 65536 ∧ at_ 120 4 = r.endP % 4294967296 ∧
        at_ 132 4 = (if r.running then r.aim else r.target) % 4294967296 ∧ at_ 160 4 = r.fillMs % 4294967296) ∧
      at_ 178 4 = (p.receivers.get h).ageMs % 4294967296) ∧
  (∀ t : FinalTicket,
    let at_ := numAt (ticketItems t)
    at_ 0 4 = t.base.number % 4294967296 ∧ at_ 36 4 = t.base.price % 4294967296 ∧
      at_ 44 4 = t.fin.verified % 4294967296 ∧ at_ 52 4 = t.fin.amount % 4294967296 ∧
      at_ 60 4 = t.fin.shortfall % 4294967296 ∧ at_ 64 1 = t.fin.reason.place ∧
      at_ 84 4 = t.fin.batch.getD 0 % 4294967296) ∧
  ∀ c : ClosedBatch,
    let at_ := numAt (batchItems c)
    at_ 0 4 = c.batch.number % 4294967296 ∧ at_ 5 1 = c.cause.code ∧ at_ 20 4 = c.batch.mass % 4294967296 ∧
      at_ 24 4 = c.batch.amount % 4294967296 ∧
      ∀ i, i < 12 → at_ (41 + 4 * i) 4 = (c.batch.tickets[i]?).getD 0 % 4294967296

/-! ## The station -/

/-- R177: OPEN STATION refuses in its order, answers OK where the station is OPEN, and opens a CLOSED one. -/
def Obligations.OpenStation : Prop :=
  ∀ (s : State) (tag : Byte), s.room →
    (s.office.clock = none → OnlyReplies (.openStation tag) s 0x05 tag .clockUnset []) ∧
    (s.office.clock ≠ none → s.office.tariff = none → OnlyReplies (.openStation tag) s 0x05 tag .notConfigured []) ∧
    (s.office.clock ≠ none → s.office.tariff ≠ none → s.plant.trip = true →
      OnlyReplies (.openStation tag) s 0x05 tag .wrongState []) ∧
    (s.office.clock ≠ none → s.office.tariff ≠ none → s.plant.trip = false → s.plant.mode = .closing →
      OnlyReplies (.openStation tag) s 0x05 tag .busy []) ∧
    (s.office.clock ≠ none → s.office.tariff ≠ none → s.plant.trip = false → s.plant.mode = .opened →
      OnlyReplies (.openStation tag) s 0x05 tag .ok []) ∧
    (s.office.clock ≠ none → s.office.tariff ≠ none → s.plant.trip = false → s.plant.mode = .closed →
      Gives (.openStation tag) s fun t => t.plant.mode = .opened ∧ Settled s t ∧ Replied s t 0x05 tag .ok [])

/-- R178, R80, R102: CLOSE STATION of an OPEN station leaves it closing, or closed where it could close at once; no
session waits to start, and under STOP none runs: a session not yet in PRECHECK is cancelled with CANCELLED, STOP ends one
that runs with STATION_CLOSE, and under FINISH a fill goes on to its own end (R102), a session in WAIT_PRECOOL entering
FILLING or ending there only by its own tests. A station that is not OPEN refuses it, and a close kind that is none of the
two is refused first. That a session cancelled to IDLE keeps its end reason there is read from R55 and R74 (assumption
19). -/
def Obligations.CloseStation : Prop :=
  (∀ (s : State) (tag : Byte) (n : Nat), s.room → 1 < n → OnlyReplies (.closeStation tag n) s 0x06 tag .badValue []) ∧
  ∀ (s : State) (tag : Byte) (n : Nat) (k : CloseKind), s.room → closeKindOf n = some k →
    (s.plant.mode ≠ .opened → OnlyReplies (.closeStation tag n) s 0x06 tag .wrongState []) ∧
    (s.plant.mode = .opened → Gives (.closeStation tag n) s fun t =>
      (t.plant.mode = .closing ∧ t.plant.closeKind = some k ∨ t.plant.mode = .closed) ∧
      (∀ h, (t.plant.sessState h).early = false) ∧ (k = .stop → ∀ h, (t.plant.sessState h).running = false) ∧
      s.plant.Settled t.plant ∧ Replied s t 0x06 tag .ok []) ∧
    (s.plant.mode = .opened → Gives (.closeStation tag n) s fun t => ∀ h,
      let st := s.plant.sessState h
      let reason := (t.plant.sessions.get h).endReason
      (st.early = true → t.plant.rests h ∧ reason = some .cancelled) ∧
      (st = .idle ∨ st = .ending ∨ st = .settled → reason = (s.plant.sessions.get h).endReason) ∧
      (k = .finish →
        (st = .precheck → t.plant.sessState h = .precheck) ∧
        (st = .filling → t.plant.sessState h = .filling) ∧
        (st = .waitPrecool → s.plant.readyToFlow h = false → t.plant.sessState h = .waitPrecool) ∧
        (st = .waitPrecool → s.plant.readyToFlow h = true → (t.plant.sessState h).running = true ∨
          t.plant.sessState h = .ending ∧ reason ≠ some .stationClose ∧ reason ≠ some .cancelled))) ∧
    (s.plant.mode = .opened → s.plant.oneActive → Gives (.closeStation tag n) s fun t =>
      (k = .stop → ∀ h, (s.plant.sessState h).running = true → Ended h .stationClose t.plant) ∧
      (k = .finish → ∀ d r, s.plant.fills d r → ∃ q, t.plant.fills d q ∧ q.hose = r.hose))

/-- R180: PARK of an ACTIVE dispenser leaves it PARKING or PARKED, with its arm interval stopped and no session of its
hoses waiting to start; UNPARK makes it ACTIVE, unless a breakaway switch shows a hose parted; both refuse a number of no
dispenser. That UNPARK of an ACTIVE dispenser with a parted hose is answered BUSY is the model's choice (assumption 21). -/
def Obligations.ParkAndUnpark : Prop :=
  (∀ (s : State) (tag : Byte) (n : Nat), s.room → n = 0 ∨ 4 < n →
    OnlyReplies (.park tag n) s 0x07 tag .badValue [] ∧ OnlyReplies (.unpark tag n) s 0x08 tag .badValue []) ∧
  ∀ (s : State) (tag : Byte) (n : Nat) (d : Disp), s.room → dispOf n = some d →
    ((s.plant.disps.get d).park ≠ .active → OnlyReplies (.park tag n) s 0x07 tag .ok []) ∧
    ((s.plant.disps.get d).park = .active → Gives (.park tag n) s fun t =>
      (t.plant.disps.get d).park ≠ .active ∧ t.plant.armT.get d = none ∧
      (t.plant.sessState d.hoseA).early = false ∧ (t.plant.sessState d.hoseB).early = false ∧
      s.plant.Settled t.plant ∧ Replied s t 0x07 tag .ok []) ∧
    (s.plant.parted d = true → OnlyReplies (.unpark tag n) s 0x08 tag .busy []) ∧
    (s.plant.parted d = false → (s.plant.disps.get d).park = .active →
      OnlyReplies (.unpark tag n) s 0x08 tag .ok []) ∧
    (s.plant.parted d = false → (s.plant.disps.get d).park ≠ .active → Gives (.unpark tag n) s fun t =>
      (t.plant.disps.get d).park = .active ∧ Settled s t ∧ Replied s t 0x08 tag .ok [])

/-- R181: SET HOLD asserts host HOLD and HOLD is then true; RELEASE HOLD deasserts it and HOLD follows the other sources.
R81, R93, R94, R69, R31: at HOLD's becoming true a running fill pauses for HOLD with Dn.PCV at 0, the pulse of a precheck
is taken back, and no compressor stays LOADED. R61, R62: at its becoming false the cause is removed, and the first QUEUED
hose of a dispenser whose other start conditions hold enters PRECHECK, or ends with SENSOR_FAULT where its pressure is
INVALID; a second one then waits behind it. -/
def Obligations.HostHold : Prop :=
  (∀ (s : State) (tag : Byte), s.room → s.plant.conditionsFormed → s.plant.hold = false → s.plant.oneActive →
    Gives (.setHold tag) s fun t =>
      (∀ d r, s.plant.fills d r → t.plant.sessState r.hose = .filling ∧
        (∃ q, (t.plant.disps.get d).ramp = some q ∧ q.pauses.hold = some (r.pauses.hold.getD 0)) ∧
        (r.pauses = .empty → (t.plant.outs.get (.pcv d)).function = some (.setpoint 0))) ∧
      (∀ h, s.plant.sessState h = .precheck → t.plant.sessState h = .precheck ∧
        (t.plant.sessions.get h).pulse = .zero ∧ (t.plant.sessions.get h).settle = .zero ∧
        (t.plant.sessions.get h).pa = none ∧
        ((t.plant.sessions.get h).pulseStep = none ∨ (t.plant.sessions.get h).pulseStep = some .valves) ∧
        (t.plant.outs.get (.pcv h.disp)).function = some (.setpoint 0)) ∧
      ∀ c k, (t.plant.comps.get c).state ≠ .loaded k) ∧
  (∀ (s : State) (tag : Byte), s.room → s.plant.conditionsFormed → s.plant.hold = true →
    ({ s.plant with hostHold := false } : Plant).holdSource = false → s.plant.oneActive →
    Gives (.releaseHold tag) s fun t =>
      (∀ d r, s.plant.fills d r → t.plant.sessState r.hose = .filling ∧
        ∃ q, (t.plant.disps.get d).ramp = some q ∧ q.pauses.hold = none) ∧
      ∀ h, s.plant.sessState h = .queued → (s.plant.sessions.get h).queuePos = some .first →
        (s.plant.sessState h.other).flowing = false →
        ¬ (s.plant.sessState h.other = .queued ∧ (s.plant.sessions.get h.other).queuePos = some .first) →
        s.plant.mode = .opened → s.plant.trip = false → (s.plant.disps.get h.disp).park = .active →
        ((s.plant.analogs.get (.pt h)).valid = true → t.plant.sessState h = .precheck) ∧
        ((s.plant.analogs.get (.pt h)).valid = false → Ended h .sensorFault t.plant) ∧
        (s.plant.sessState h.other = .queued → t.plant.sessState h.other = .queued ∧
          (t.plant.sessions.get h.other).wait = some .otherHose ∧
          (t.plant.sessions.get h.other).queuePos = some .first)) ∧
  ∀ (s : State) (tag : Byte), s.room → s.plant.conditionsFormed →
    (Gives (.setHold tag) s fun t =>
      Settled { s with plant := { s.plant with hostHold := true, hold := true } } t ∧ Replied s t 0x09 tag .ok []) ∧
    Gives (.releaseHold tag) s fun t =>
      Settled { s with plant := { s.plant with
        hostHold := false, hold := ({ s.plant with hostHold := false } : Plant).holdSource } } t ∧
      Replied s t 0x0A tag .ok []

/-- R182, R171, R181, R16, R34, R53, R81, R166, R94, R69, R31: SET TRIP while TRIP is false stops the station: every
output is commanded to its fail-safe value under a SAFETY claim, every bank is isolated and empty, no compressor and no
stage runs, and no session is authorised but in ENDING. While TRIP is true it sets the host TRIP source alone. A debounced
level that asserts a TRIP source (an ESD or a flame detector asserted, a gas detector at level 2) while TRIP is false
makes TRIP true with the same reach, each session ending or cancelled with STATION_TRIP as R81 says; a gas detector at
level 1 makes HOLD true, which pauses fills, takes back the pulse of a precheck and unloads compressors. That a SWITCH is
asserted at level 1 (assumption 10), and that a session cancelled to IDLE keeps its end reason there (assumption 19), are
the model's. -/
def Obligations.SetTripStopsAll : Prop :=
  (∀ (s : State) (tag : Byte), s.room → s.plant.trip = false → s.plant.isolatedEmpty →
    Gives (.setTrip tag) s fun t =>
      t.plant.hostTrip = true ∧ t.plant.trip = true ∧ Replied s t 0x0B tag .ok [] ∧
      (∀ o, (t.plant.outs.get o).safety = some (failSafe o) ∧ (t.plant.outs.get o).commanded = failSafe o) ∧
      (∀ k, (t.plant.banks.get k).causes.trip = true ∧ (t.plant.banks.get k).drawn = false ∧
        (t.plant.banks.get k).filler = none) ∧
      (∀ c, (t.plant.comps.get c).state.running = false) ∧ (∀ x, (t.plant.stages.get x).state.runOn = false) ∧
      ∀ h, (t.plant.sessState h).authorisedNow = true → t.plant.sessState h = .ending) ∧
  (∀ (s : State) (tag : Byte), s.room → s.plant.trip = true → s.plant.conditionsFormed →
    Gives (.setTrip tag) s fun t =>
      Settled { s with plant := { s.plant with hostTrip := true } } t ∧ Replied s t 0x0B tag .ok []) ∧
  ∀ (s : State) (x : SwitchPoint) (l : Nat),
    let detector := x = .caGd ∨ ∃ d, x = .gd d
    let trips := detector ∧ l = 2 ∨ ¬ detector ∧ 0 < l
    let becomes := fun post : State → Prop => Gives (.debounceExpiry x) s post
    (x = .fd1 ∨ x = .fd2 ∨ x = .caGd ∨ ∃ d, x = .esd d ∨ x = .gd d) → (s.plant.switches.get x).candidate = some l →
      (becomes fun t => t.plant.hostHold = s.plant.hostHold ∧ t.plant.hostTrip = s.plant.hostTrip ∧
        t.plant.hold = t.plant.holdSource ∧ (s.plant.trip = true ∨ trips → t.plant.trip = true)) ∧
      (s.plant.conditionsFormed → s.plant.trip = false → ¬ trips → becomes fun t => t.plant.trip = false) ∧
      (detector → l = 1 → becomes fun t => t.plant.hold = true) ∧
      (trips → s.plant.trip = false → s.plant.isolatedEmpty → becomes fun t =>
        (∀ o, (t.plant.outs.get o).safety = some (failSafe o) ∧ (t.plant.outs.get o).commanded = failSafe o) ∧
        (∀ k, (t.plant.banks.get k).causes.trip = true ∧ (t.plant.banks.get k).drawn = false ∧
          (t.plant.banks.get k).filler = none) ∧
        (∀ c, (t.plant.comps.get c).state.running = false) ∧ (∀ y, (t.plant.stages.get y).state.runOn = false) ∧
        ∀ h, (t.plant.sessState h).authorisedNow = true → t.plant.sessState h = .ending) ∧
      (trips → s.plant.trip = false → becomes fun t => ∀ h,
        (s.plant.sessState h = .authorised ∨ s.plant.sessState h = .queued →
          t.plant.rests h ∧ (t.plant.sessions.get h).endReason = some .stationTrip) ∧
        (s.plant.sessState h = .lifted ∨ s.plant.sessState h = .coupled → t.plant.sessState h = s.plant.sessState h)) ∧
      (trips → s.plant.trip = false → s.plant.oneActive → becomes fun t => ∀ h,
        (s.plant.sessState h).running = true → Ended h .stationTrip t.plant) ∧
      (detector → l = 1 → s.plant.conditionsFormed → s.plant.hold = false → s.plant.trip = false → s.plant.oneActive →
        becomes fun t =>
          (∀ d r, s.plant.fills d r → t.plant.sessState r.hose = .filling ∧
            (∃ q, (t.plant.disps.get d).ramp = some q ∧ q.pauses.hold = some (r.pauses.hold.getD 0)) ∧
            (r.pauses = .empty → (t.plant.outs.get (.pcv d)).function = some (.setpoint 0))) ∧
          (∀ h, s.plant.sessState h = .precheck → t.plant.sessState h = .precheck ∧
            (t.plant.sessions.get h).pulse = .zero ∧ (t.plant.sessions.get h).settle = .zero ∧
            (t.plant.sessions.get h).pa = none ∧
            ((t.plant.sessions.get h).pulseStep = none ∨ (t.plant.sessions.get h).pulseStep = some .valves) ∧
            (t.plant.outs.get (.pcv h.disp)).function = some (.setpoint 0)) ∧
          ∀ c k, (t.plant.comps.get c).state ≠ .loaded k)

/-- R182, R17, R166: RESET TRIP is refused while TRIP is false, and while a TRIP source other than host TRIP is asserted;
else it clears TRIP, the SAFETY claims and the banks' TRIP cause. -/
def Obligations.ResetTrip : Prop :=
  ∀ (s : State) (tag : Byte), s.room →
    (s.plant.trip = false → OnlyReplies (.resetTrip tag) s 0x0C tag .wrongState []) ∧
    (s.plant.trip = true → s.plant.fieldTrip = true → OnlyReplies (.resetTrip tag) s 0x0C tag .busy []) ∧
    (s.plant.trip = true → s.plant.fieldTrip = false → Gives (.resetTrip tag) s fun t =>
      t.plant.hostTrip = false ∧ t.plant.trip = false ∧ Replied s t 0x0C tag .ok [] ∧
      (∀ o, (t.plant.outs.get o).safety = none) ∧
      (∀ k, (t.plant.banks.get k).causes = { (s.plant.banks.get k).causes with trip := false }) ∧
      (∀ h, (t.plant.sessions.get h).paper = (s.plant.sessions.get h).paper) ∧ s.office.Settled t.office)

/-- R183, R35, R53, R82, R166: after RESTART the station is CLOSED with the host's sources deasserted and the conditions
as the field's sources form them, every session is at rest, no batch is open, no arm and no keep-cold interval runs, both
compressors are STOPPED with no shutdown order, each stage is OFF or in FAULT, and no output carries a MANUAL claim. -/
def Obligations.Restart : Prop :=
  ∀ (s : State) (tag : Byte), s.room → s.plant.absentIdle → Gives (.restart tag) s fun t =>
    Replied s t 0x0D tag .ok [] ∧ t.plant.mode = .closed ∧ t.plant.closeKind = none ∧ t.plant.shutdownGiven = false ∧
    t.plant.hostHold = false ∧ t.plant.hostTrip = false ∧ t.plant.trip = t.plant.fieldTrip ∧
    t.plant.hold = t.plant.holdSource ∧
    (∀ h, t.plant.rests h) ∧ t.office.openBatches = [] ∧
    (∀ d, t.plant.armT.get d = none ∧ t.plant.keepT.get d = none) ∧
    (∀ c, (t.plant.comps.get c).state = .stopped ∧ (t.plant.comps.get c).shutdown = .none ∧
      (t.plant.comps.get c).enabled = (s.plant.comps.get c).enabled) ∧
    (∀ x, (t.plant.stages.get x).state.runOn = false) ∧ (∀ o, (t.plant.outs.get o).manual = none) ∧
    t.plant.cfg = s.plant.cfg ∧ t.plant.switches = s.plant.switches ∧ t.plant.analogs = s.plant.analogs ∧
    t.plant.receivers = s.plant.receivers ∧ t.plant.measured = s.plant.measured ∧ t.office.clock = s.office.clock ∧
    t.office.tariff = s.office.tariff ∧ t.office.queue = s.office.queue

/-! ## Dispensers and money -/

/-- R58, R139, R140: the checks of an authorisation in their order, each with its refusal, and the hold formed; and what
an authorisation that passes them has found. That no credential counts as expired on an unset clock is the model's choice
(assumption 29), of a case no run reaches. -/
def Obligations.AuthorisationChecks : Prop :=
  (∀ (h : Hose) (a : AuthAsk) (s : State),
    let bad := s.plant.mode ≠ .opened ∨ s.plant.trip = true ∨ (s.plant.disps.get h.disp).park ≠ .active ∨
      (s.plant.sessState h ≠ .lifted ∧ s.plant.sessState h ≠ .coupled)
    (s.plant.grade.get h = none → authCheck h a s = .error .notPresent) ∧
    ∀ g, s.plant.grade.get h = some g →
      (bad → authCheck h a s = .error .wrongState) ∧
      (¬ bad → s.office.findCred a = none → authCheck h a s = .error .notFound) ∧
      ∀ i c, ¬ bad → s.office.findCred a = some (i, c) →
        let late := ∃ e y, c.expiryDay = some e ∧ s.office.clock = some y ∧ e < y.day
        let allowed := (if g = .h70 then c.allows70 else c.allows35) = true
        let poor := c.kind ≠ .service ∧ c.holdFor a.preset < 100
        let room := s.office.openTickets.length + s.office.finalised.length < 256
        (c.state = .suspended → authCheck h a s = .error .suspended) ∧
        (c.state = .active → late → authCheck h a s = .error .expired) ∧
        (c.state = .active → ¬ late → ¬ allowed → authCheck h a s = .error .gradeRefused) ∧
        (c.state = .active → ¬ late → allowed → poor → authCheck h a s = .error .noAllowance) ∧
        (c.state = .active → ¬ late → allowed → ¬ poor → ¬ room → authCheck h a s = .error .full) ∧
        (c.state = .active → ¬ late → allowed → ¬ poor → room →
          authCheck h a s = .ok ⟨i, c, c.holdFor a.preset, g⟩)) ∧
  (∀ (o : Office) (a : AuthAsk),
    (∀ r, a.order = some r → o.findCred a =
      ((credAt r.credIndex o.creds).filter fun c => c.kind = .fleet).map fun c => (r.credIndex, c)) ∧
    ∀ k, a.order = none → a.key = some k →
      o.findCred a = o.creds.find? fun e => decide (e.2.issuer = k.1 ∧ e.2.token = k.2)) ∧
  (∀ (c : Cred) (x : Option Nat), c.holdFor x = if c.kind = .service then 0 else
    min c.remaining.toNat (min (c.amountCap.getD c.remaining.toNat)
      ((x.map fun v => min v 100000000).getD c.remaining.toNat))) ∧
  ∀ (h : Hose) (a : AuthAsk) (s : State) (x : AuthTake), authCheck h a s = .ok x →
    s.plant.grade.get h = some x.grade ∧ s.plant.mode = .opened ∧ s.plant.trip = false ∧
    (s.plant.disps.get h.disp).park = .active ∧ (s.plant.sessState h = .lifted ∨ s.plant.sessState h = .coupled) ∧
    s.office.findCred a = some (x.index, x.cred) ∧ x.cred.state = .active ∧
    x.cred.expired s.office.clock = false ∧ x.cred.allows x.grade = true ∧
    (x.cred.kind = .service ∧ x.hold = 0 ∨ x.cred.kind ≠ .service ∧ 100 ≤ x.hold ∧ (x.hold : Int) ≤ x.cred.remaining) ∧
    s.office.openTickets.length + s.office.finalised.length < 256

/-- R58 to R61, R134, R140, R151, R153: AUTHORISE HOSE refuses with the first check that fails; taken, it takes the hold
from the entry, opens a ticket with the price and the period of this event, takes the session to the state of R59 to R61,
and answers with the ticket number and the hold, as R187 and R190 encode them. That OK_ADJUSTED carries the target SOC
before them is the model's choice (assumption 12), and so is OK for a preset above what can be held (assumption 20). -/
def Obligations.AuthoriseHose : Prop :=
  ∀ (s : State) (tag : Byte) (n issuer token : Nat) (preset mass soc : Option Nat) (h : Hose),
    s.room → hoseOf n = some h →
    let used := clamp 500 1000 (soc.getD 980)
    let ask : AuthAsk := ⟨some (issuer, token), none, preset, mass, used⟩
    (∀ m, hoseOf m = none → OnlyReplies (.authoriseHose tag m issuer token preset mass soc) s 0x10 tag .badValue []) ∧
    (∀ c, authCheck h ask s = .error c → OnlyReplies (.authoriseHose tag n issuer token preset mass soc) s 0x10 tag c []) ∧
    ∀ x, authCheck h ask s = .ok x → Gives (.authoriseHose tag n issuer token preset mass soc) s fun t =>
      t.office.creds = credPut x.index { x.cred with
        remaining := x.cred.remaining - x.hold, openHolds := x.cred.openHolds + x.hold
        openCount := x.cred.openCount + 1 } s.office.creds ∧
      t.office.openTickets = s.office.openTickets ++ [⟨s.office.nextTicket, h, x.grade, x.index, x.cred.kind,
        x.cred.account, none, s.office.now, s.office.periodId, s.office.priceFor x.cred x.grade, x.hold⟩] ∧
      (t.plant.sessions.get h).paper = { (s.plant.sessions.get h).paper with
        cred := some x.index, order := none, ticket := some s.office.nextTicket
        price := some (s.office.priceFor x.cred x.grade), periodId := some s.office.periodId, hold := some x.hold
        massLimit := smallerLimit x.cred.massLimit mass, targetSoc := some used } ∧
      (t.plant.sessState h).authorisedNow = true ∧ Starts h s.plant t.plant ∧
      (∀ j, j ≠ h → (t.plant.sessions.get j).paper = (s.plant.sessions.get j).paper) ∧
      Settled (authTake h ask x s) t ∧
      Replied s t 0x10 tag (if used = soc.getD 980 then .ok else .okAdjusted)
        ((if used = soc.getD 980 then [] else u16 used) ++ u32 s.office.nextTicket ++ u32 x.hold)

/-- R128, R130: AUTHORISE BY ORDER finds the bus's order anywhere in the queue, authorises the hose with it as AUTHORISE
HOSE would, takes the session where an authorisation takes it (R59 to R61), and places the order in service for the hose;
BUSY answers a bus in service, and NOT_FOUND one that has no order. -/
def Obligations.AuthoriseByOrder : Prop :=
  ∀ (s : State) (tag : Byte) (bus n : Nat) (h : Hose), s.room → hoseOf n = some h →
    (∀ m, hoseOf m = none → OnlyReplies (.authoriseByOrder tag bus m) s 0x11 tag .badValue []) ∧
    (findOrder bus s.office.queue = none → OnlyReplies (.authoriseByOrder tag bus n) s 0x11 tag
      (if s.office.inService bus then .busy else .notFound) []) ∧
    ∀ i r, findOrder bus s.office.queue = some (i, r) →
      (∀ c, authCheck h (orderAsk r) s = .error c → OnlyReplies (.authoriseByOrder tag bus n) s 0x11 tag c []) ∧
      ∀ x, authCheck h (orderAsk r) s = .ok x → Gives (.authoriseByOrder tag bus n) s fun t =>
        t.office.queue = dropOrder bus s.office.queue ∧
        t.office.bindings = s.office.bindings.set h (some ⟨r, s.office.nextTicket⟩) ∧
        t.office.creds = credPut x.index (x.cred.takeHold x.hold) s.office.creds ∧
        (t.plant.sessions.get h).paper.order = some (bus, r.targetSoc) ∧ (t.plant.sessState h).authorisedNow = true ∧
        Starts h s.plant t.plant ∧
        Settled (serveOrder h r x s) t ∧ Replied s t 0x11 tag .ok (u32 s.office.nextTicket ++ u32 x.hold)

/-- R64: STOP HOSE ends a fill that runs with HOST_STOP, cancels a session that waits, answers OK where the fill is
already ending or ended, and is refused where nothing is authorised. That a session cancelled to IDLE keeps its end reason
there is read from R55 and R74 (assumption 19). -/
def Obligations.StopHose : Prop :=
  (∀ (s : State) (tag : Byte) (n : Nat), s.room →
    (hoseOf n = none → OnlyReplies (.stopHose tag n) s 0x12 tag .badValue []) ∧
    ∀ h, hoseOf n = some h → s.plant.grade.get h = none → OnlyReplies (.stopHose tag n) s 0x12 tag .notPresent []) ∧
  ∀ (s : State) (tag : Byte) (n : Nat) (h : Hose), s.room → hoseOf n = some h → s.plant.present h = true →
    (s.plant.sessState h = .idle ∨ s.plant.sessState h = .lifted ∨ s.plant.sessState h = .coupled →
      OnlyReplies (.stopHose tag n) s 0x12 tag .wrongState []) ∧
    (s.plant.sessState h = .ending ∨ s.plant.sessState h = .settled → OnlyReplies (.stopHose tag n) s 0x12 tag .ok []) ∧
    (s.plant.sessState h = .authorised ∨ s.plant.sessState h = .queued → Gives (.stopHose tag n) s fun t =>
      t.plant.rests h ∧ (t.plant.sessions.get h).endReason = some .cancelled ∧ s.plant.Settled t.plant ∧
      Replied s t 0x12 tag .ok []) ∧
    ((s.plant.sessState h).running = true → s.plant.oneActive → Gives (.stopHose tag n) s fun t =>
      Ended h .hostStop t.plant ∧ Settled s t ∧ Replied s t 0x12 tag .ok [])

/-- R47, R74: ARM DISPENSER starts the arm interval with its minutes clamped to 1 to 60; at its end, and at the end of the
keep-cold interval, the interval stops; a SETTLED session whose nozzle is stowed and uncoupled enters IDLE, and after a
PRECHECK the keep-cold interval starts for the configured time, replacing any it had left, or stops where that time is 0.
A dispenser number outside 1 to 4 and a dispenser with both hoses ABSENT are refused. The one byte of minutes in
OK_ADJUSTED (assumption 12), and that the end of an interval that does not run changes nothing (assumption 3), are the
model's choices; that a keep-cold time of 0 ends an interval that runs, and that the interval starts whatever the park
state, are read from R47 (assumption 25). -/
def Obligations.ArmAndKeepCold : Prop :=
  (∀ (s : State) (tag : Byte) (n m : Nat), s.room →
    (n = 0 ∨ 4 < n → OnlyReplies (.armDispenser tag n m) s 0x14 tag .badValue []) ∧
    ∀ d, dispOf n = some d → s.plant.grade.get d.hoseA = none → s.plant.grade.get d.hoseB = none →
      OnlyReplies (.armDispenser tag n m) s 0x14 tag .notPresent []) ∧
  (∀ (s : State) (tag : Byte) (n m : Nat) (d : Disp), s.room → dispOf n = some d → s.plant.dispPresent d = true →
    ((s.plant.disps.get d).park ≠ .active → OnlyReplies (.armDispenser tag n m) s 0x14 tag .wrongState []) ∧
    ((s.plant.disps.get d).park = .active → Gives (.armDispenser tag n m) s fun t =>
      t.plant.armT.get d = some (clamp 1 60 m * 60000) ∧ Settled s t ∧
      Replied s t 0x14 tag (if clamp 1 60 m = m then .ok else .okAdjusted) (if clamp 1 60 m = m then [] else u8 (clamp 1 60 m)))) ∧
  (∀ (s : State) (d : Disp), s.plant.armT.get d ≠ none → Gives (.armIntervalEnd d) s fun t =>
    t.plant.armT.get d = none ∧ Settled s t) ∧
  (∀ (s : State) (d : Disp), s.plant.armT.get d = none → exec (.armIntervalEnd d) s = .next s) ∧
  (∀ (s : State) (d : Disp), s.plant.keepT.get d ≠ none →
    (∀ h, h.disp = d → s.plant.sessState h = .settled →
      (s.plant.deasserted (.hol h) && s.plant.deasserted (.cpl h)) = false) →
    Gives (.keepColdIntervalEnd d) s fun t => t.plant.keepT.get d = none ∧ Settled s t) ∧
  (∀ (s : State) (d : Disp), s.plant.keepT.get d = none → exec (.keepColdIntervalEnd d) s = .next s) ∧
  ∀ (p : Plant) (h : Hose), p.sessState h = .settled →
    ((p.deasserted (.hol h) && p.deasserted (.cpl h)) = false → settledToIdle h p = p) ∧
    ((p.deasserted (.hol h) && p.deasserted (.cpl h)) = true →
      (settledToIdle h p).sessState h = .idle ∧ (settledToIdle h p).armT = p.armT ∧
      (settledToIdle h p).keepT = if (p.sessions.get h).entered then
        p.keepT.set h.disp (if p.cfg.keepCold = 0 then none else some (p.cfg.keepCold * 60000)) else p.keepT)

/-- R135: LOAD CREDENTIAL writes the entry its description gives, with its balance at the loaded allowance, where the
index is in the table, the entry has no open fill and no other entry has the key; else it is refused, and nothing is
written. The tests of a description and the entry it gives are written out. BAD_VALUE for a grades bit of no grade
(assumption 17), and the values OK_ADJUSTED carries (assumption 12), are the model's choices. -/
def Obligations.LoadCredential : Prop :=
  (∀ (x : CredItems) (a : Nat),
    let bad := (x.state ≠ 1 ∧ x.state ≠ 2) ∨ 2 < x.kind ∨ x.grades = 0 ∨ 3 < x.grades ∨ 3 < x.priceClass ∨
      (x.kind = 1 ∧ x.account = none)
    (bad → loadedCred x a = none) ∧
    (¬ bad → loadedCred x a = some
      { state := if x.state = 1 then .active else .suspended
        issuer := x.issuer, token := x.token
        kind := if x.kind = 0 then .retail else if x.kind = 1 then .fleet else .service
        allows70 := x.grades.testBit 0, allows35 := x.grades.testBit 1, priceClass := x.priceClass
        account := if x.kind = 1 then x.account else none
        massLimit := x.massLimit.map fun v => min v 200000, amountCap := x.amountCap.map fun v => min v 100000000
        expiryDay := x.expiryDay, loaded := (min a 100000000 : Nat), remaining := (min a 100000000 : Nat)
        openHolds := 0, consumed := 0, openCount := 0 })) ∧
  ∀ (s : State) (tag : Byte) (i : Nat) (x : CredItems) (a : Nat), s.room →
    (512 ≤ i → OnlyReplies (.loadCredential tag i x a) s 0x18 tag .badValue []) ∧
    (i < 512 → loadedCred x a = none → OnlyReplies (.loadCredential tag i x a) s 0x18 tag .badValue []) ∧
    ∀ c, i < 512 → loadedCred x a = some c →
      (hasOpenFill i s.office.creds = true → OnlyReplies (.loadCredential tag i x a) s 0x18 tag .busy []) ∧
      (hasOpenFill i s.office.creds = false → keyElsewhere i c s.office.creds = true →
        OnlyReplies (.loadCredential tag i x a) s 0x18 tag .duplicate []) ∧
      (hasOpenFill i s.office.creds = false → keyElsewhere i c s.office.creds = false →
        c.loaded = (min a 100000000 : Nat) ∧ c.remaining = c.loaded ∧ c.openHolds = 0 ∧ c.consumed = 0 ∧
        c.openCount = 0 ∧
        (let changed := 100000000 < a ∨ (∃ v, x.massLimit = some v ∧ 200000 < v) ∨ ∃ v, x.amountCap = some v ∧ 100000000 < v
         let answered := fun (st : Status) (items : List Byte) => exec (.loadCredential tag i x a) s =
           .next { s with office := { s.office with
             creds := credPut i c s.office.creds
             replies := s.office.replies ++ [⟨0x18, tag, st, s.plant.lost, items⟩] } }
         (¬ changed → answered .ok []) ∧
          (changed → answered .okAdjusted (u32 (min a 100000000) ++ optItem 4 (x.massLimit.map fun v => min v 200000) ++
            optItem 4 (x.amountCap.map fun v => min v 100000000)))))

/-- R136, R137, R138: ADD ALLOWANCE, SUSPEND, RESUME and DELETE, with their refusals: the entry named changes as the rule
says, and nothing else does. -/
def Obligations.CredentialEdits : Prop :=
  ∀ (s : State) (tag : Byte) (i n : Nat), s.room →
    let done := fun (kind : Nat) (st : Status) (items : List Byte) (creds : List (Nat × Cred)) =>
      (Host.Outcome.next { s with office := { s.office with
        creds := creds, replies := s.office.replies ++ [⟨kind, tag, st, s.plant.lost, items⟩] } } :
        Host.Outcome State Fault Refusal)
    (512 ≤ i → OnlyReplies (.addAllowance tag i n) s 0x19 tag .badValue [] ∧
      OnlyReplies (.suspend tag i) s 0x1A tag .badValue [] ∧ OnlyReplies (.resume tag i) s 0x1B tag .badValue [] ∧
      OnlyReplies (.delete tag i) s 0x1C tag .badValue []) ∧
    (i < 512 → credAt i s.office.creds = none → OnlyReplies (.addAllowance tag i n) s 0x19 tag .notFound [] ∧
      OnlyReplies (.suspend tag i) s 0x1A tag .notFound [] ∧ OnlyReplies (.resume tag i) s 0x1B tag .notFound [] ∧
      OnlyReplies (.delete tag i) s 0x1C tag .notFound []) ∧
    ∀ c, i < 512 → credAt i s.office.creds = some c →
      (c.loaded + n ≤ 100000000 → exec (.addAllowance tag i n) s = done 0x19 .ok [] (credPut i { c with
        loaded := c.loaded + n, remaining := c.remaining + n } s.office.creds)) ∧
      (100000000 < c.loaded + n → c.loaded ≤ 100000000 → exec (.addAllowance tag i n) s =
        done 0x19 .okAdjusted (u32 (100000000 - c.loaded).toNat) (credPut i { c with
          loaded := 100000000, remaining := c.remaining + (100000000 - c.loaded) } s.office.creds)) ∧
      exec (.suspend tag i) s = done 0x1A .ok [] (credPut i { c with state := .suspended } s.office.creds) ∧
      exec (.resume tag i) s = done 0x1B .ok [] (credPut i { c with state := .active } s.office.creds) ∧
      (0 < c.openCount → OnlyReplies (.delete tag i) s 0x1C tag .busy []) ∧
      (c.openCount = 0 → exec (.delete tag i) s = done 0x1C .ok [] (credDrop i s.office.creds))

/-! ## The depot queue -/

/-- R120 to R122, R125, R126: the checks of an order in their order, and the values used; APPEND ORDER, SPLICE ORDER and
WITHDRAW ORDER change the queue as named, answer with the position, and pass the window demand and the depot reports of
the new queue on. That the position is one byte behind the values used, that SPLICE ORDER's plain OK carries it too, and
which values OK_ADJUSTED carries (the k used with them, clamped or not), is the model's choice (assumption 12), and so is
BAD_VALUE for a mask bit of no dispenser (assumption 17). -/
def Obligations.DepotQueue : Prop :=
  ∀ (s : State) (tag : Byte), s.room →
    (∀ x c, orderCheck x s = .error c → OnlyReplies (.appendOrder tag x) s 0x20 tag c [] ∧
      ∀ k, OnlyReplies (.spliceOrder tag x k) s 0x21 tag c []) ∧
    (∀ x r, orderCheck x s = .ok r →
      let clamped := r.targetSoc ≠ x.targetSoc ∨ r.expectedMass ≠ x.expectedMass
      let used := u16 r.targetSoc ++ u32 r.expectedMass
      (Gives (.appendOrder tag x) s fun t => t.office.queue = s.office.queue ++ [r] ∧ t.windowPassed ∧
        Settled (queueOrder s.office.queue.length r s) t ∧
        (¬ clamped → Replied s t 0x20 tag .ok (u8 (s.office.queue.length + 1))) ∧
        (clamped → Replied s t 0x20 tag .okAdjusted (used ++ u8 (s.office.queue.length + 1)))) ∧
      ∀ k, Gives (.spliceOrder tag x k) s fun t =>
        t.office.queue = s.office.queue.take k ++ r :: s.office.queue.drop k ∧ t.windowPassed ∧
        Settled (queueOrder (min k s.office.queue.length) r s) t ∧
        (¬ clamped ∧ k ≤ s.office.queue.length → Replied s t 0x21 tag .ok (u8 (k + 1))) ∧
        (clamped ∨ s.office.queue.length < k → Replied s t 0x21 tag .okAdjusted
          (used ++ u8 (min k s.office.queue.length) ++ u8 (min k s.office.queue.length + 1)))) ∧
    (∀ x,
      let late := ∃ y c, x.deadline = some y ∧ s.office.clock = some c ∧ c.passed ⟨y.1, y.2⟩ = true
      let bad := x.busId = 0 ∨ 512 ≤ x.credIndex ∨ x.mask = 0 ∨ 16 ≤ x.mask ∨
        (∃ y, x.deadline = some y ∧ 86399 < y.2) ∨ late
      let twice := (findOrder x.busId s.office.queue).isSome = true ∨ s.office.inService x.busId = true
      (bad → orderCheck x s = .error .badValue) ∧
      (¬ bad → credAt x.credIndex s.office.creds = none → orderCheck x s = .error .notFound) ∧
      ∀ c, ¬ bad → credAt x.credIndex s.office.creds = some c →
        (c.kind ≠ .fleet → orderCheck x s = .error .badValue) ∧
        (c.kind = .fleet → twice → orderCheck x s = .error .duplicate) ∧
        (c.kind = .fleet → ¬ twice → 48 ≤ s.office.queue.length → orderCheck x s = .error .full) ∧
        (c.kind = .fleet → ¬ twice → s.office.queue.length < 48 → ∃ m, orderCheck x s = .ok
          ⟨x.busId, x.credIndex, clamp 500 1000 x.targetSoc, min x.expectedMass 200000, m,
            x.deadline.map fun y => ⟨y.1, y.2⟩⟩ ∧
          m.d1 = x.mask.testBit 0 ∧ m.d2 = x.mask.testBit 1 ∧ m.d3 = x.mask.testBit 2 ∧ m.d4 = x.mask.testBit 3)) ∧
    (∀ b, findOrder b s.office.queue = none → OnlyReplies (.withdrawOrder tag b) s 0x22 tag
      (if s.office.inService b then .busy else .notFound) []) ∧
    ∀ b i r, findOrder b s.office.queue = some (i, r) → Gives (.withdrawOrder tag b) s fun t =>
      t.office.queue = s.office.queue.filter (fun r => r.busId ≠ b) ∧ t.windowPassed ∧
      Settled (passWindow (s.onOffice fun o => { o with queue := dropOrder b o.queue })) t ∧
      Replied s t 0x22 tag .ok []

/-! ## The clock, the tariff, the tickets and the batches -/

/-- R147, R148, R150, R132: SET CLOCK sets the clock and CLOCK ADVANCE advances a set one by a second; at either, the
queued orders whose deadline has passed leave the queue, and a period change (the clock's crossing of a start minute; a
setting that changes the current period) advances the period id and closes every open batch with PERIOD_CHANGE. That CLOCK
ADVANCE changes nothing while the clock is unset is the model's choice (assumption 3). -/
def Obligations.ClockMoves : Prop :=
  (∀ (s : State) (tag : Byte) (d x : Nat), s.room →
    (65535 < d ∨ 86399 < x → OnlyReplies (.setClock tag d x) s 0x02 tag .badValue []) ∧
    (d ≤ 65535 → x ≤ 86399 → Gives (.setClock tag d x) s fun t =>
      t.office.clock = some ⟨d, x⟩ ∧ Replied s t 0x02 tag .ok [] ∧ t.windowPassed ∧
      t.office.queue = s.office.queue.filter (fun r =>
        match r.deadline with | some y => !(Clock.passed ⟨d, x⟩ y) | none => true) ∧
      (let start := fun o : Office => o.current.map fun y => y.start
       let new := start { s.office with clock := some ⟨d, x⟩ }
       (new ≠ none → new ≠ start s.office → t.office.periodId = (s.office.periodId + 1) % 4294967296 ∧
          BatchesClosed s t .periodChange) ∧
        (new = none ∨ new = start s.office → t.office.periodId = s.office.periodId ∧ (s.plant.mode ≠ .closing →
          t.office.openBatches = s.office.openBatches ∧ t.office.closedBatches = s.office.closedBatches))) ∧
      t.office.creds = s.office.creds ∧ t.office.tariff = s.office.tariff ∧ s.plant.cfg = t.plant.cfg)) ∧
  (∀ (s : State) (c : Clock), s.office.clock = some c → Gives .clockAdvance s fun t =>
    t.office.clock = some (if c.second < 86399 then ⟨c.day, c.second + 1⟩
      else if c.day < 65535 then ⟨c.day + 1, 0⟩ else ⟨0, 0⟩) ∧ t.windowPassed ∧
    t.office.queue = s.office.queue.filter (fun r =>
      match r.deadline with | some y => !(Clock.passed c.advance y) | none => true) ∧
    (let crosses := ∃ xs, s.office.tariff = some xs ∧ ∃ y ∈ xs, y.start * 60 = c.advance.second
     (crosses → t.office.periodId = (s.office.periodId + 1) % 4294967296 ∧ BatchesClosed s t .periodChange) ∧
      (¬ crosses → t.office.periodId = s.office.periodId ∧ (s.plant.mode ≠ .closing →
        t.office.openBatches = s.office.openBatches ∧ t.office.closedBatches = s.office.closedBatches))) ∧
    t.office.creds = s.office.creds ∧ t.office.tariff = s.office.tariff ∧ t.office.replies = s.office.replies) ∧
  ∀ s : State, s.office.clock = none → exec .clockAdvance s = .next s

/-- R149, R150, R161: LOAD TARIFF refuses a table that fails its checks; a sound one replaces the table, advances the
period id and closes every open batch with PERIOD_CHANGE. The checks and the clamp of the prices are written out. That
OK_ADJUSTED carries every price (assumption 12), and that a start minute above 1,439 is not refused (assumption 17), are
the model's choices. -/
def Obligations.LoadTariff : Prop :=
  (∀ xs : List PeriodItems, tableOk xs = true ↔
    1 ≤ xs.length ∧ xs.length ≤ 6 ∧ (∀ x ys, xs = x :: ys → x.start = 0) ∧
      (xs.map PeriodItems.start).Pairwise fun a b => a < b) ∧
  (∀ x : PeriodItems, periodOf x = ⟨x.start,
    ⟨min x.p0 999999, min x.p1 999999, min x.p2 999999, min x.p3 999999⟩,
    ⟨min x.p4 999999, min x.p5 999999, min x.p6 999999, min x.p7 999999⟩⟩) ∧
  ∀ (s : State) (tag : Byte) (xs : List PeriodItems), s.room →
    (tableOk xs = false → OnlyReplies (.loadTariff tag xs) s 0x24 tag .badValue []) ∧
    (tableOk xs = true → Gives (.loadTariff tag xs) s fun t =>
      Settled (s.onOffice fun o => { o with
        tariff := some (xs.map periodOf), periodId := (o.periodId + 1) % 4294967296 }) t ∧
      t.office.openBatches = [] ∧ t.office.closedBatches = s.office.closedBatches ++
        s.office.openBatches.map (fun b => ⟨b, .periodChange, s.office.now⟩) ∧
      (let given := ∀ x ∈ xs, ∀ v ∈ [x.p0, x.p1, x.p2, x.p3, x.p4, x.p5, x.p6, x.p7], v ≤ 999999
       (given → Replied s t 0x24 tag .ok []) ∧
        (¬ given → Replied s t 0x24 tag .okAdjusted (xs.flatMap fun x =>
          [x.p0, x.p1, x.p2, x.p3, x.p4, x.p5, x.p6, x.p7].flatMap fun v => u32 (min v 999999)))))

/-- R156, R161, R162: RELEASE TICKETS and RELEASE BATCHES remove the oldest records up to the one named and answer with
their count, or NOT_FOUND; FLUSH BATCHES closes every open batch with FLUSH; at its timer a batch closes with TIMER, and
every other batch stays open. R158, R159: how a finalised ticket is offered and placed, case by case. The widths of the
counts in the replies (assumption 15), the open timer raised to its limit, and that the expiry of a number that is not
open closes nothing (assumption 3), are the model's choices. -/
def Obligations.TicketsAndBatches : Prop :=
  (∀ (s : State) (n : Nat), Gives (.batchTimerExpiry n) s fun t =>
    Settled s t ∧ t.office.replies = s.office.replies ∧
    t.office.openBatches = s.office.openBatches.filter (fun b => b.number ≠ n) ∧
    t.office.closedBatches = s.office.closedBatches ++ (s.office.openBatches.filter fun b => b.number = n).map
      (fun b => ⟨{ b with openMs := b.limitMin * 60000 }, .timer, s.office.now⟩)) ∧
  (∀ (o : Office) (k : Ticket) (tainted : Bool) (mass amount : Nat),
    let r := o.offer k tainted mass amount
    let places := o.openBatches.length + o.closedBatches.length < 32
    (k.account = none ∨ k.kind ≠ .fleet ∨ tainted = true ∨ amount = 0 → r = ⟨o, none, []⟩) ∧
    ∀ a, k.account = some a → k.kind = .fleet → tainted = false → 0 < amount →
      (∀ old b new, o.openBatches = old ++ b :: new → b.account = a → (∀ c ∈ old, c.account ≠ a) →
        (∀ c ∈ old ++ new, c.number ≠ b.number) →
        let same := b.grade = k.grade ∧ b.periodId = k.periodId ∧ b.price = k.price
        let grown : Batch := { b with tickets := b.tickets ++ [k.number], mass := b.mass + mass, amount := b.amount + amount }
        (same → b.amount + amount ≤ o.batchLimit → b.tickets.length + 1 < 12 →
          r = ⟨{ o with openBatches := old ++ grown :: new }, some b.number, []⟩) ∧
        (same → b.amount + amount ≤ o.batchLimit → 12 ≤ b.tickets.length + 1 →
          r = ⟨{ o with openBatches := old ++ new, closedBatches := o.closedBatches ++ [⟨grown, .count, o.now⟩] },
            some b.number, [ClosedBatch.notice ⟨grown, .count, o.now⟩]⟩) ∧
        (¬ same ∨ o.batchLimit < b.amount + amount → ¬ places → r = ⟨o, none, []⟩) ∧
        (¬ same ∨ o.batchLimit < b.amount + amount → places →
          let gone : ClosedBatch := ⟨b, if same then .full else .mismatch, o.now⟩
          r = ⟨({ o with openBatches := old ++ new, closedBatches := o.closedBatches ++ [gone] } : Office).openBatch
            k a mass amount, some o.nextBatch, [gone.notice]⟩)) ∧
      ((∀ b ∈ o.openBatches, b.account ≠ a) →
        (o.openBatches.length < 8 → places → r = ⟨o.openBatch k a mass amount, some o.nextBatch, []⟩) ∧
        (¬ places → r = ⟨o, none, []⟩) ∧
        ∀ b rest, 8 ≤ o.openBatches.length → o.openBatches = b :: rest → (∀ c ∈ rest, c.number ≠ b.number) → places →
          let gone : ClosedBatch := ⟨b, .evicted, o.now⟩
          r = ⟨({ o with openBatches := rest, closedBatches := o.closedBatches ++ [gone] } : Office).openBatch
            k a mass amount, some o.nextBatch, [gone.notice]⟩)) ∧
  (∀ (o : Office) (k : Ticket) (a mass amount : Nat), (o.openBatch k a mass amount).openBatches = o.openBatches ++
    [⟨o.nextBatch, a, k.grade, k.periodId, k.price, [k.number], mass, amount, o.now, 0, o.batchTimer⟩]) ∧
  ∀ (s : State) (tag : Byte), s.room →
    (∀ n, (∀ f ∈ s.office.finalised, f.base.number ≠ n) →
      OnlyReplies (.releaseTickets tag n) s 0x29 tag .notFound []) ∧
    (∀ old f new, s.office.finalised = old ++ f :: new → (∀ g ∈ old, g.base.number ≠ f.base.number) →
      exec (.releaseTickets tag f.base.number) s = .next { s with office := { s.office with
        finalised := new
        replies := s.office.replies ++ [⟨0x29, tag, .ok, s.plant.lost, u16 (old.length + 1)⟩] } }) ∧
    (∀ n, (∀ b ∈ s.office.closedBatches, b.batch.number ≠ n) →
      OnlyReplies (.releaseBatches tag n) s 0x2B tag .notFound []) ∧
    (∀ old b new, s.office.closedBatches = old ++ b :: new → (∀ g ∈ old, g.batch.number ≠ b.batch.number) →
      exec (.releaseBatches tag b.batch.number) s = .next { s with office := { s.office with
        closedBatches := new
        replies := s.office.replies ++ [⟨0x2B, tag, .ok, s.plant.lost, u8 (old.length + 1)⟩] } }) ∧
    Gives (.flushBatches tag) s fun t => Settled s t ∧ t.office.openBatches = [] ∧
      t.office.closedBatches = s.office.closedBatches ++ s.office.openBatches.map (fun b => ⟨b, .flush, s.office.now⟩) ∧
      Replied s t 0x2C tag .ok (u8 s.office.openBatches.length)

/-! ## Configuration and points -/

/-- R191, R13: CONFIGURE refuses in its order, clamps a numeric value to its range (the table of ranges is written out,
and an enumerated value is used as given), answers with a value it changed, and, where the pressures of each bank stand in
their order (R13, which every step keeps), the parameter then has the value used. That OK_ADJUSTED carries it in 4 bytes
is the model's choice (assumption 12), and so is BAD_VALUE for a point byte other than 0 behind a unit's parameter
(assumption 11). -/
def Obligations.Configure : Prop :=
  (∀ (p : Plant) (v : Nat),
    (∀ h, p.settingUsed (.derate h) v = clamp 50 100 v ∧ p.settingUsed (.grade h) v = v) ∧
    (∀ d, p.settingUsed (.depotMode d) v = v) ∧ p.settingUsed .keepCold v = min v 30 ∧
    p.settingUsed .corrUpper v = clamp 2000 15000 v ∧ p.settingUsed .corrLower v = clamp 2000 15000 v ∧
    p.settingUsed .margin v = min v 200 ∧ p.settingUsed .limit70 v = clamp 60 3600 v ∧
    p.settingUsed .limit35 v = clamp 60 3600 v ∧ p.settingUsed .batchTimer v = clamp 5 240 v ∧
    p.settingUsed .batchLimit v = clamp 1000 10000000 v ∧
    (∀ k, p.settingUsed (.tier k) v = v ∧ p.settingUsed (.volume k) v = clamp 50 20000 v ∧
      p.settingUsed (.maxP k) v = clamp 10000 98000 v ∧ p.settingUsed (.refill k) v = min v (p.banks.get k).maxP ∧
      p.settingUsed (.floorP k) v = min v (p.banks.get k).refill) ∧
    (∀ o, p.settingUsed (.travel o) v = clamp 500 10000 v) ∧
    ∀ x, p.settingUsed (.debounce x) v = clamp 10 1000 v ∧ p.settingUsed (.edge x) v = v) ∧
  ∀ (s : State) (tag : Byte) (id u x v : Nat), s.room → (∀ k, (s.plant.banks.get k).refill ≤ (s.plant.banks.get k).maxP) →
    (settingOf id u x = none → OnlyReplies (.configure tag id u x v) s 0x03 tag .badValue []) ∧
    ∀ y, settingOf id u x = some y →
      (y.listed v = false → OnlyReplies (.configure tag id u x v) s 0x03 tag .badValue []) ∧
      (y.listed v = true → s.plant.settingAbsent y = true →
        OnlyReplies (.configure tag id u x v) s 0x03 tag .notPresent []) ∧
      (y.listed v = true → s.plant.settingAbsent y = false → s.plant.settingBusy y = true →
        OnlyReplies (.configure tag id u x v) s 0x03 tag .busy []) ∧
      (y.listed v = true → s.plant.settingAbsent y = false → s.plant.settingBusy y = false →
        Gives (.configure tag id u x v) s fun t =>
          y.value t = s.plant.settingUsed y v ∧
          Settled { s with
            plant := y.plant (s.plant.settingUsed y v) s.plant
            office := y.office (s.plant.settingUsed y v) s.office } t ∧
          Replied s t 0x03 tag (if s.plant.settingUsed y v = v then .ok else .okAdjusted)
            (if s.plant.settingUsed y v = v then [] else u32 (s.plant.settingUsed y v)))

/-- R166, R170, R172: DRIVE POINT places a MANUAL claim and RELEASE POINT removes it, the output being commanded to the
value of its effective owner; DRIVE POINT answers OK or OK_ADJUSTED where MANUAL is that owner and OK_STORED where it is
not; ACK EVENT clears a point's flag and count; and what each is refused with. OK_STORED for a clamped setpoint
(assumption 12) and the order of BAD_VALUE before NOT_PRESENT (assumption 17) are the model's choices. -/
def Obligations.PointRequests : Prop :=
  ∀ (s : State) (tag : Byte) (u n : Nat), s.room →
    (∀ o v w, pointOf u n = some (.out o) → driveValue o v = some w → s.plant.pointAbsent (.out o) = false →
      Gives (.drivePoint tag u n v) s fun t => (t.plant.outs.get o).manual = some w ∧
        (t.plant.outs.get o).commanded = (t.plant.outs.get o).chosen (t.plant.maint o) (failSafe o) ∧
        Settled (s.onPlant (setManual o (some w))) t ∧
        (let r := s.plant.outs.get o
         let holds := r.safety = none ∧ r.function = none ∧ s.plant.maint o = true
         let clamped := o.isSetpoint = true ∧ 100000 < v
         (holds → ¬ clamped → Replied s t 0x39 tag .ok []) ∧
          (holds → clamped → Replied s t 0x39 tag .okAdjusted (u32 100000)) ∧
          (¬ holds → Replied s t 0x39 tag .okStored []))) ∧
    (∀ o v, driveValue o v = if o.isSetpoint = true then some (.setpoint (min v 100000))
      else if v = 0 then some (.position false) else if v = 1 then some (.position true) else none) ∧
    ((∀ o, pointOf u n ≠ some (.out o)) → (∀ v, OnlyReplies (.drivePoint tag u n v) s 0x39 tag .badValue []) ∧
      OnlyReplies (.releasePoint tag u n) s 0x3A tag .badValue []) ∧
    (∀ o, pointOf u n = some (.out o) →
      (∀ v, driveValue o v = none → OnlyReplies (.drivePoint tag u n v) s 0x39 tag .badValue []) ∧
      (s.plant.pointAbsent (.out o) = true →
        (∀ v, driveValue o v ≠ none → OnlyReplies (.drivePoint tag u n v) s 0x39 tag .notPresent []) ∧
        OnlyReplies (.releasePoint tag u n) s 0x3A tag .notPresent [])) ∧
    ((∀ x, pointOf u n ≠ some (.switch x)) → OnlyReplies (.ackEvent tag u n) s 0x3B tag .badValue []) ∧
    (∀ x, pointOf u n = some (.switch x) → s.plant.pointAbsent (.switch x) = true →
      OnlyReplies (.ackEvent tag u n) s 0x3B tag .notPresent []) ∧
    (∀ o, pointOf u n = some (.out o) → s.plant.pointAbsent (.out o) = false →
      Gives (.releasePoint tag u n) s fun t => (t.plant.outs.get o).manual = none ∧
        (t.plant.outs.get o).commanded = (t.plant.outs.get o).chosen (t.plant.maint o) (failSafe o) ∧
        Settled (s.onPlant (setManual o none)) t ∧ Replied s t 0x3A tag .ok []) ∧
    ∀ x, pointOf u n = some (.switch x) → s.plant.pointAbsent (.switch x) = false →
      exec (.ackEvent tag u n) s = .next { s with
        plant := s.plant.setSwitch x { s.plant.switches.get x with flag := false, count := 0 },
        office := { s.office with replies := s.office.replies ++ [⟨0x3B, tag, .ok, s.plant.lost, []⟩] } }

/-! ## Supply -/

/-- R16, R17: ISOLATE BANK adds the cause HOST and an isolated bank has no drawer and no filler; RESTORE BANK removes the
cause, and is refused during TRIP. Both refuse a number of no bank. That RESTORE BANK tests the number before TRIP is the
model's choice (assumption 17). -/
def Obligations.IsolateAndRestore : Prop :=
  (∀ (s : State) (tag : Byte) (n : Nat), s.room → n = 0 ∨ 6 < n →
    OnlyReplies (.isolateBank tag n) s 0x31 tag .badValue [] ∧ OnlyReplies (.restoreBank tag n) s 0x32 tag .badValue []) ∧
  ∀ (s : State) (tag : Byte) (n : Nat) (k : BankId), s.room → bankOf n = some k → s.plant.isolatedEmpty →
    (Gives (.isolateBank tag n) s fun t =>
      (t.plant.banks.get k).causes = { (s.plant.banks.get k).causes with host := true } ∧
      (t.plant.banks.get k).drawn = false ∧ (t.plant.banks.get k).filler = none ∧
      (∀ j, j ≠ k → (t.plant.banks.get j).paper = (s.plant.banks.get j).paper) ∧
      s.office.Settled t.office ∧ Replied s t 0x31 tag .ok []) ∧
    (s.plant.trip = true → OnlyReplies (.restoreBank tag n) s 0x32 tag .wrongState []) ∧
    (s.plant.trip = false → Gives (.restoreBank tag n) s fun t =>
      (t.plant.banks.get k).causes = { (s.plant.banks.get k).causes with host := false } ∧
      (∀ j, j ≠ k → (t.plant.banks.get j).paper = (s.plant.banks.get j).paper) ∧
      s.office.Settled t.office ∧ Replied s t 0x32 tag .ok [])

/-- R27, R32, R33: the COMPRESSOR request: ENABLE enables, DISABLE disables and a compressor that starts, loads or idles
then stops; CLEAR takes a LOCKED_OUT compressor out of its lockout unless its fault is still asserted. -/
def Obligations.CompressorRequests : Prop :=
  (∀ (s : State) (tag : Byte) (n : Nat), s.room → n = 0 ∨ 2 < n →
    OnlyReplies (.compressorEnable tag n) s 0x33 tag .badValue [] ∧
    OnlyReplies (.compressorDisable tag n) s 0x33 tag .badValue [] ∧
    OnlyReplies (.compressorClear tag n) s 0x33 tag .badValue []) ∧
  ∀ (s : State) (tag : Byte) (n : Nat) (c : CompId), s.room → compOf n = some c → s.plant.fillersLoad →
    let r := s.plant.comps.get c
    (Gives (.compressorEnable tag n) s fun t =>
      Settled (s.onPlant fun p => { p with comps := p.comps.set c { r with enabled := true } }) t ∧
      Replied s t 0x33 tag .ok []) ∧
    (Gives (.compressorDisable tag n) s fun t =>
      Settled (s.onPlant fun p => { p with comps := p.comps.set c { r with enabled := false } }) t ∧
      (r.state.runOn = true → (t.plant.comps.get c).state = .stopping) ∧
      (r.state.runOn = false → (t.plant.comps.get c).state = r.state) ∧ Replied s t 0x33 tag .ok []) ∧
    (r.state.isLocked = false → OnlyReplies (.compressorClear tag n) s 0x33 tag .wrongState []) ∧
    (r.state.isLocked = true → s.plant.asserted (.compFlt c) = true →
      OnlyReplies (.compressorClear tag n) s 0x33 tag .busy []) ∧
    (r.state.isLocked = true → s.plant.asserted (.compFlt c) = false → Gives (.compressorClear tag n) s fun t =>
      (t.plant.comps.get c).state.isLocked = false ∧ Settled s t ∧ Replied s t 0x33 tag .ok [])

/-- R29, R32, R34: at its start timer a compressor leaves STARTING, for STOPPING under FINISH; at its unload timer it
enters STOPPING; at its stopping timer it enters STOPPED, from where it may start again. R179: where that brings a closing
with its shutdown orders given to both compressors at rest, the station is CLOSED, its open batches close with
STATION_CLOSE, and the orders and the closing's fields are cleared. That in another state an expiry does nothing is the
model's choice (assumption 3). -/
def Obligations.CompressorTimers : Prop :=
  ∀ (s : State) (c : CompId), s.plant.fillersLoad →
    let r := s.plant.comps.get c
    (r.state = .starting → Gives (.startTimerExpiry c) s fun t => Settled s t ∧
      ((∃ k, (t.plant.comps.get c).state = .loaded k) ∨ (t.plant.comps.get c).state = .unloaded ∨
        (t.plant.comps.get c).state = .stopping) ∧
      (r.shutdown = .finish → (t.plant.comps.get c).state = .stopping)) ∧
    (r.state = .unloaded → Gives (.unloadTimerExpiry c) s fun t =>
      Settled s t ∧ (t.plant.comps.get c).state = .stopping) ∧
    (r.state = .stopping → s.plant.mode ≠ .closing → Gives (.stoppingTimerExpiry c) s fun t =>
      Settled s t ∧ ((t.plant.comps.get c).state = .stopped ∨ (t.plant.comps.get c).state = .starting)) ∧
    (r.state = .stopping → s.plant.mode = .closing → s.plant.shutdownGiven = true →
      (∀ x, (s.plant.comps.get x).shutdown ≠ .none ∧ (x ≠ c → (s.plant.comps.get x).state.atRest = true)) →
      Gives (.stoppingTimerExpiry c) s fun t => s.plant.Settled t.plant ∧ s.office.Settled t.office ∧
        t.plant.mode = .closed ∧ t.plant.closeKind = none ∧ t.plant.shutdownGiven = false ∧
        (∀ d, t.plant.quiet.get d = false) ∧ (∀ x, (t.plant.comps.get x).shutdown = .none) ∧
        (t.plant.comps.get c).state = .stopped ∧ BatchesClosed s t .stationClose) ∧
    (r.state ≠ .starting → exec (.startTimerExpiry c) s = .next s) ∧
    (r.state ≠ .unloaded → exec (.unloadTimerExpiry c) s = .next s) ∧
    (r.state ≠ .stopping → exec (.stoppingTimerExpiry c) s = .next s)

/-! ## The chiller -/

/-- R38: CLEAR STAGE takes a stage in FAULT to OFF, unless its fault is still asserted, and HOLD follows its sources. That
BUSY comes before WRONG_STATE, for a stage that is not in FAULT too, is the model's choice (assumption 21). -/
def Obligations.ClearStage : Prop :=
  (∀ (s : State) (tag : Byte) (n : Nat), s.room → n = 0 ∨ 3 < n →
    OnlyReplies (.clearStage tag n) s 0x35 tag .badValue []) ∧
  ∀ (s : State) (tag : Byte) (n : Nat) (x : StageId), s.room → stageOf n = some x → s.plant.conditionsFormed →
    (s.plant.asserted (.stageFlt x) = true → OnlyReplies (.clearStage tag n) s 0x35 tag .busy []) ∧
    (s.plant.asserted (.stageFlt x) = false → (s.plant.stages.get x).state.isFault = false →
      OnlyReplies (.clearStage tag n) s 0x35 tag .wrongState []) ∧
    (s.plant.asserted (.stageFlt x) = false → (s.plant.stages.get x).state.isFault = true →
      Gives (.clearStage tag n) s fun t => (t.plant.stages.get x).state = .off ∧
        Settled { s with plant := { s.plant with hold :=
          ({ s.plant with stages := s.plant.stages.set x ⟨.off, 0, 0⟩ } : Plant).holdSource } } t ∧
        Replied s t 0x35 tag .ok [])

/-- R37, R39, R51, R52: a stage's start timer takes it from STARTING to RUNNING; its off timer makes it available, and it
starts where it is needed; the stop timer takes the highest-numbered RUNNING stage to OFF; the band timer makes the
candidate the chiller ambient band. The start decision: where the demands exceed what the stages RUNNING and STARTING
give, the station is not CLOSED and TRIP does not hold, the lowest-numbered stage available enters STARTING, and the
decision is made three times, once for each stage; at the off timer of a stage with no lower one available it starts that
stage, where no grant request of a dispenser is owed, no hose waits and none can be stowed. The off timer at 0 out of OFF
(assumption 34), the off timer raised to 60,000, and that an expiry whose timer does not run changes nothing, are the
model's choices (assumption 3). -/
def Obligations.ChillerTimers : Prop :=
  ∀ s : State,
    (∀ x, (s.plant.stages.get x).state = .starting → Gives (.stageStartTimerExpiry x) s fun t =>
      Settled s t ∧ (t.plant.stages.get x).state = .running) ∧
    (∀ x, (s.plant.stages.get x).state = .off → Gives (.offTimerSatisfied x) s fun t => Settled s t ∧
      ((t.plant.stages.get x).state = .off ∧ (t.plant.stages.get x).offMs = 60000 ∨
        (t.plant.stages.get x).state = .starting)) ∧
    (∀ x, s.plant.stopT.running = true →
      StageId.all.reverse.find? (fun y => (s.plant.stages.get y).state = .running) = some x →
      Gives .stopTimerExpiry s fun t => Settled s t ∧ (t.plant.stages.get x).state = .off) ∧
    (s.plant.stopT.running = false → exec .stopTimerExpiry s = .next s) ∧
    (∀ p : Plant,
      let short := stageCapacity p.band * (StageId.all.filter fun x =>
        (p.stages.get x).state = .running ∨ (p.stages.get x).state = .starting).length < (p.grants.map Request.demand).sum
      let ready := fun x => (p.stages.get x).state = .off ∧ 60000 ≤ (p.stages.get x).offMs ∧ p.asserted (.stageFlt x) = false
      (¬ (short ∧ p.mode ≠ .closed ∧ p.trip = false) → startOne p = p) ∧
      ((∀ x, ¬ ready x) → startOne p = p) ∧
      (∀ x, short → p.mode ≠ .closed → p.trip = false → ready x → (∀ y, y.number < x.number → ¬ ready y) →
        startOne p = putStage x ⟨.starting, 0, 0⟩ p) ∧
      startDecision p = startOne (startOne (startOne p))) ∧
    (∀ x, (s.plant.stages.get x).state = .off → s.plant.asserted (.stageFlt x) = false →
      (∀ y, y.number < x.number → s.plant.stageAvailable y = false) →
      s.plant.comingCapacity < (s.plant.grants.map Request.demand).sum → s.plant.mode ≠ .closed → s.plant.trip = false →
      (∀ h, s.plant.sessState h ≠ .queued ∧ s.plant.sessState h ≠ .settled) →
      (∀ d, (s.plant.disps.get d).park ≠ .parking ∧ (s.plant.requestOf (.disp d)).isSome = s.plant.armed d) →
      Gives (.offTimerSatisfied x) s fun t => Settled s t ∧ (t.plant.stages.get x).state = .starting) ∧
    (∀ b n, s.plant.candidate = some (b, n) → Gives .bandTimerExpiry s fun t =>
      Settled (s.onPlant fun p => { p with band := b, candidate := none }) t) ∧
    (s.plant.candidate = none → exec .bandTimerExpiry s = .next s)

/-- R49, R50, R88, R90, R91, R94: the class settle timer stops at 30 s; at the step timer the class of a running fill
steps down by one, and the fill goes on at the effective rate of the new table entry from the target it had reached, with
the ramp clock at zero, or ends with PRECOOL_LOST where the table gives none; the effective rate, the ramp target, and a
pause cause added to or removed from a record. The new class and the table rate 0 recorded at PRECOOL_LOST (assumption
22), and that an expiry whose timer does not run changes nothing (assumption 3), are the model's choices. -/
def Obligations.ClassTimers : Prop :=
  ∀ (s : State) (d : Disp),
    (∀ h, s.plant.activeHose d = some h → s.plant.sessState h = .filling → s.plant.oneActive →
      (s.plant.classSettle.get d).running = true → Gives (.classSettleExpiry d) s fun t =>
        Settled s t ∧ t.plant.classSettle.get d = ⟨false, 30000⟩) ∧
    ((s.plant.classSettle.get d).running = false → exec (.classSettleExpiry d) s = .next s) ∧
    (∀ r g, s.plant.fills d r → s.plant.oneActive → r.cls ≠ .none → s.plant.grade.get r.hose = some g →
      (s.plant.classStep.get d).running = true → Gives (.classStepTimerExpiry d) s fun t =>
        Settled s t ∧ (∃ q, (t.plant.disps.get d).ramp = some q ∧ q.cls = r.cls.down ∧
          q.tableRate = rateEntry g r.band r.cls.down ∧ q.endP = r.endP ∧
          (rateEntry g r.band r.cls.down ≠ 0 → q.clockMs = 0 ∧
            q.anchor = min r.endP (r.anchor + r.rate * r.clockMs / 1000) ∧
            q.rate = rateEntry g r.band r.cls.down * r.derate * (if r.comm = .comm then 100 else 80) / 10000)) ∧
        (rateEntry g r.band r.cls.down = 0 → Ended r.hose .precoolLost t.plant) ∧
        (rateEntry g r.band r.cls.down ≠ 0 → t.plant.sessState r.hose = .filling)) ∧
    ((s.plant.classStep.get d).running = false → exec (.classStepTimerExpiry d) s = .next s) ∧
    ∀ (r : RampRec) (c : PauseCause),
      (r.pauses.get c ≠ none → r.addPause c = r) ∧ (r.pauses.get c = none → r.removePause c = r) ∧
      (r.pauses.get c = none → r.addPause c =
        { r with target := r.aim, pauses := r.pauses.put c (some 0), lowHold := r.lowHold && !r.pauses.isEmpty }) ∧
      (r.pauses.get c ≠ none → r.removePause c = { r with target := r.aim, pauses := r.pauses.put c none })

/-! ## Sessions -/

/-- R63, R143, R154: an AUTHORISED session whose coupling timer expires is cancelled: its whole hold goes back to the
entry, its ticket is finalised with CANCELLED, and it comes to rest. That its record keeps the end reason, also where it
comes to rest in IDLE, is read from R55 and R74 (assumption 19). -/
def Obligations.CouplingTimeout : Prop :=
  ∀ (s : State) (h : Hose) (i n : Nat) (c : Cred) (k : Ticket),
    let x := s.plant.sessions.get h
    x.state = .authorised → x.cred = some i → x.hold = some n → x.verified = 0 → credAt i s.office.creds = some c →
    x.ticket = some k.number → s.office.openTickets.find? (fun y => y.number = k.number) = some k →
      Gives (.couplingTimeout h) s fun t =>
        t.plant.rests h ∧ (t.plant.sessions.get h).endReason = some .cancelled ∧ s.plant.Settled t.plant ∧
        t.office.creds = credPut i { c with remaining := c.remaining + n, openHolds := c.openHolds - n
                                            openCount := c.openCount - 1 } s.office.creds ∧
        t.office.openTickets = s.office.openTickets.filter (fun y => y.number ≠ k.number) ∧
        (∃ e, t.office.finalised = s.office.finalised ++ [⟨k, e⟩] ∧ e.reason = .cancelled ∧ e.amount = 0) ∧
        t.office.replies = s.office.replies

/-- R65, R70, R95, R97, R101, R72: the time limits of a fill: each ends it with its reason, and its dispenser is shut. The
limits of the pause causes are written out; BANK_SWITCH has none of its own. -/
def Obligations.FillTimeLimits : Prop :=
  (pauseLimit .hold = some (120000, .stationHold) ∧ pauseLimit .vehicleHalt = some (30000, .vehicleHalt) ∧
    pauseLimit .supply = some (90000, .supplyExhausted) ∧ pauseLimit .corridorHigh = some (10000, .corridorHigh) ∧
    pauseLimit .bankSwitch = none) ∧
  (∀ (s : State) (d : Disp), exec (.pauseTimerExpiry d .bankSwitch) s = .next s) ∧
  ∀ s : State, s.plant.oneActive →
    (∀ h, s.plant.sessState h = .precheck → (s.plant.sessions.get h).supplyWait.running = true →
      Gives (.supplyWaitTimeout h) s fun t => Ended h .supplyExhausted t.plant ∧ Settled s t) ∧
    (∀ h, s.plant.sessState h = .waitPrecool → s.plant.readyToFlow h = false →
      Gives (.precoolWaitTimeout h) s fun t => Ended h .precoolUnavailable t.plant ∧ Settled s t) ∧
    (∀ h, s.plant.sessState h = .waitPrecool → s.plant.readyToFlow h = true →
      Gives (.precoolWaitTimeout h) s fun t => Settled s t ∧
        (t.plant.sessState h = .filling ∨ t.plant.sessState h = .ending)) ∧
    (∀ d r c n e, s.plant.fills d r → pauseLimit c = some (n, e) → (r.pauses.get c).isSome = true →
      Gives (.pauseTimerExpiry d c) s fun t => Ended r.hose e t.plant ∧ Settled s t) ∧
    (∀ d r, s.plant.fills d r → r.lowHold = true →
      Gives (.corridorLowExpiry d) s fun t => Ended r.hose .corridorLow t.plant ∧ Settled s t) ∧
    ∀ d r, s.plant.fills d r → Gives (.fillTimeLimit d) s fun t => Ended r.hose .timeLimit t.plant ∧ Settled s t

/-- R66 to R68: at the pulse timer Dn.PCV is commanded to 0; at the settle timer the comm check gives the fill its comm
mode, the pulse tests end it with the first that fails, and a fill that passes them waits for precool or goes on. The
pulse tests, the frame the comm check takes and what it gives the session are written out. -/
def Obligations.PrecheckTimers : Prop :=
  (∀ pa pb endP, pulseTest pa pb endP = if pb + 1000 < pa then some .leak else if pb < 500 then some .tankEmpty
    else if endP ≤ pb then some .targetPressure else none) ∧
  (∀ (p : Plant) (h : Hose) (pb : Nat) (f : VehFrame), p.commFrame h pb = some f ↔
    (p.receivers.get h).frame = some f ∧ (p.receivers.get h).ageMs < 1000 ∧ (p.receivers.get h).invalidRun < 3 ∧
      f.pressure ≤ pb + 5000 ∧ pb ≤ f.pressure + 5000) ∧
  (∀ (x : Session) (g : Grade), x.commChecked g none = { x with comm := some .noncomm } ∧
    ∀ f, x.commChecked g (some f) = { x with
      comm := some .comm, startFrame := some f, socFrame := some f
      startSoc := some (soc g f.pressure f.temperature), lastSoc := some (soc g f.pressure f.temperature) }) ∧
  ∀ (s : State) (h : Hose), s.plant.oneActive → s.plant.sessState h = .precheck →
    let x := s.plant.sessions.get h
    let g := (s.plant.grade.get h).getD .h70
    let pb := s.plant.hoseP h
    let y := x.commChecked g (s.plant.commFrame h pb)
    let verdict := pulseTest (x.pa.getD 0) pb (endPressure (y.comm.getD .noncomm) g s.plant.bandNow)
    (x.pulseStep = some .pulsing → x.bank ≠ none → Gives (.pulseTimerExpiry h) s fun t =>
      Settled s t ∧ t.plant.sessState h = .precheck ∧
      ((t.plant.sessions.get h).pulseStep = some .closing ∨ (t.plant.sessions.get h).pulseStep = some .settling) ∧
      (t.plant.outs.get (.pcv h.disp)).function = some (.setpoint 0)) ∧
    (x.pulseStep = some .settling → ∀ r, verdict = some r → Gives (.settleTimerExpiry h) s fun t =>
      Ended h r t.plant ∧ Settled (s.onPlant fun p => p.setSession h y) t) ∧
    (x.pulseStep = some .settling → verdict = none → Gives (.settleTimerExpiry h) s fun t =>
      Settled (s.onPlant fun p => p.setSession h { y with initialP := some pb }) t ∧
      (t.plant.sessState h = .waitPrecool ∨ t.plant.sessState h = .filling ∨ t.plant.sessState h = .ending))

/-- R73, R143, R154: when the afterflow of a session in ENDING is complete, by its timer or by its second zero report, the
session is settled against its entry, its ticket is finalised with its reason and its bill and offered to the Batch Unit
(R158), and it comes to rest. That AFTERFLOW COMPLETE is taken whatever the zero count shows is the model's choice
(assumption 3). -/
def Obligations.AfterflowSettles : Prop :=
  ∀ (s : State) (h : Hose) (i : Nat) (c : Cred) (k : Ticket) (r : EndReason),
    let x := s.plant.sessions.get h
    let b := bill (x.price.getD 0) x.verified (x.hold.getD 0)
    x.state = .ending → x.endReason = some r → x.cred = some i → credAt i s.office.creds = some c →
    x.ticket = some k.number → s.office.openTickets.find? (fun y => y.number = k.number) = some k →
      let post := fun t : State =>
        t.plant.rests h ∧ s.plant.Settled t.plant ∧
        t.office.creds = credPut i (c.settle (x.hold.getD 0) b.covered) s.office.creds ∧
        t.office.openTickets = s.office.openTickets.filter (fun y => y.number ≠ k.number) ∧
        (∃ e, t.office.finalised = s.office.finalised ++ [⟨k, e⟩] ∧ e.reason = r ∧ e.verified = x.verified ∧
          e.amount = b.amount ∧ e.covered = min b.amount (x.hold.getD 0) ∧ e.shortfall = b.amount - e.covered ∧
          e.batch = (s.office.offer k x.tainted x.verified b.amount).batch) ∧
        (s.plant.mode ≠ .closing →
          let r := s.office.offer k x.tainted x.verified b.amount
          t.office.openBatches = r.office.openBatches ∧ t.office.closedBatches = r.office.closedBatches ∧
            t.office.nextBatch = r.office.nextBatch) ∧
        t.office.bindings = s.office.bindings.set h none ∧ t.office.replies = s.office.replies
      Gives (.afterflowTimeout h) s post ∧
      (s.plant.activeHose h.disp = some h → Gives (.afterflowComplete h.disp) s post)

/-- R23, R24: at the switch timer a FILLING fill leaves a bank that can no longer serve it: it is no longer a drawer, its
inlet valve is commanded closed, and the timer is cleared. -/
def Obligations.SwitchTimer : Prop :=
  ∀ (s : State) (d : Disp) (r : RampRec) (k : BankId) (n : Nat),
    s.plant.oneActive → s.plant.fills d r → (s.plant.sessions.get r.hose).bank = some k →
    (s.plant.disps.get d).switchT.running = true → (s.plant.banks.get k).pressure = some n →
    n < s.plant.hoseP r.hose + 3000 → Gives (.switchTimerExpiry d) s fun t =>
      Settled s t ∧ (t.plant.sessions.get r.hose).bank ≠ some k ∧ (t.plant.banks.get k).drawers.get d = false ∧
      (t.plant.outs.get (.inlet d k)).function = some (.position false) ∧
      (t.plant.disps.get d).switchT = ⟨false, 0⟩

/-! ## The field lines -/

/-- R171, R172: a raw level other than the debounced one becomes the candidate and starts the debounce timer at zero, and
the debounced level discards the candidate; at the debounce timer the candidate becomes the debounced level, and an edge
the selection takes sets the flag and counts; a point of an ABSENT hose passes nothing on and sets no flag (R164). The
owners of the points of a hose and of the FLT inputs act on the level (those of the Station Condition Unit stand in
SetTripStopsAll): a nozzle lifted, coupled, uncoupled and stowed takes its session on or back (R55, R57, R60, R63, R74) or
ends its fill with DECOUPLED (R78); a parted hose parks its dispenser and ends or cancels its session (R77); a fault locks
its running compressor out (R33) and takes its stage to FAULT (R38). That a SWITCH is asserted at level 1 (assumption 10),
that a level equal to the candidate restarts the timer too (assumption 16, read from R171), that an expiry with no
candidate does nothing (assumption 3), what the debounce timer shows without a candidate (assumption 35), and that the
point of an ABSENT hose takes its level and keeps its edge count (assumption 23), are the model's choices; that the end
reason of a session cancelled to IDLE is kept there is read from R55 and R74 (assumption 19). -/
def Obligations.SwitchLevels : Prop :=
  (∀ (s : State) (x : SwitchPoint) (l : Nat) (h : Hose), (s.plant.switches.get x).candidate = some l →
    s.plant.present h = true → x = .hol h ∨ x = .cpl h ∨ x = .brk h → Gives (.debounceExpiry x) s fun t =>
      (∀ j, j ≠ h → (t.plant.sessions.get j).paper = (s.plant.sessions.get j).paper) ∧
      (∀ k, (t.plant.banks.get k).paper = (s.plant.banks.get k).paper) ∧
      t.plant.hold = s.plant.hold ∧ t.plant.trip = s.plant.trip) ∧
  (∀ (s : State) (l : Nat) (h : Hose), s.plant.present h = true →
    let st := s.plant.sessState h
    let becomes := fun (x : SwitchPoint) (post : State → Prop) =>
      (s.plant.switches.get x).candidate = some l → Gives (.debounceExpiry x) s post
    (0 < l → st = .idle → becomes (.hol h) fun t => t.plant.receivers.get h = .cleared ∧ t.plant.sessions.get h =
      { Session.powerOn with state := if s.plant.asserted (.cpl h) = true then .coupled else .lifted }) ∧
    (l = 0 → st = .lifted ∨ st = .coupled → becomes (.hol h) fun t => t.plant.sessions.get h = .powerOn) ∧
    (l = 0 → st = .authorised ∨ st = .queued → becomes (.hol h) fun t =>
      t.plant.rests h ∧ (t.plant.sessions.get h).endReason = some .cancelled) ∧
    (l = 0 → st = .settled → s.plant.deasserted (.cpl h) = true → becomes (.hol h) fun t => t.plant.sessState h = .idle) ∧
    (l = 0 → st = .settled → s.plant.deasserted (.hol h) = true → becomes (.cpl h) fun t => t.plant.sessState h = .idle) ∧
    (l = 0 → st.running = true → s.plant.oneActive →
      becomes (.hol h) (fun t => Ended h .decoupled t.plant) ∧ becomes (.cpl h) fun t => Ended h .decoupled t.plant) ∧
    (0 < l → st = .lifted → becomes (.cpl h) fun t => t.plant.sessState h = .coupled) ∧
    (l = 0 → st = .coupled → becomes (.cpl h) fun t => t.plant.sessState h = .lifted) ∧
    (l = 0 → st = .queued → becomes (.cpl h) fun t => t.plant.sessState h = .authorised ∧
      (t.plant.sessions.get h).wait = none ∧ (t.plant.sessions.get h).queuePos = none ∧
      (t.plant.sessions.get h).coupling = .start) ∧
    (0 < l → st = .authorised →
      let ready := s.plant.mode = .opened ∧ s.plant.hold = false ∧ s.plant.trip = false ∧
        (s.plant.disps.get h.disp).park = .active ∧ (s.plant.sessState h.other).flowing = false
      (ready → (s.plant.analogs.get (.pt h)).valid = true → becomes (.cpl h) fun t => t.plant.sessState h = .precheck) ∧
      (ready → (s.plant.analogs.get (.pt h)).valid = false → becomes (.cpl h) fun t => Ended h .sensorFault t.plant) ∧
      (¬ ready → becomes (.cpl h) fun t => t.plant.sessState h = .queued ∧
        (t.plant.sessions.get h).queuePos = some (if s.plant.sessState h.other = .queued then .second else .first) ∧
        (t.plant.sessions.get h).wait = if (s.plant.sessState h.other).flowing = true then some .otherHose
          else if (s.plant.disps.get h.disp).park ≠ .active then some .parked
          else if s.plant.hold = true then some .hold else none)) ∧
    (0 < l → s.plant.oneActive → becomes (.brk h) fun t => (t.plant.disps.get h.disp).park = .parked ∧
      (st.early = true → t.plant.rests h ∧ (t.plant.sessions.get h).endReason = some .breakaway) ∧
      (st.running = true → Ended h .breakaway t.plant) ∧
      ((s.plant.sessState h.other).running = true → Ended h.other .breakaway t.plant) ∧
      (st = .ending ∨ st = .settled → (t.plant.sessions.get h).endReason = (s.plant.sessions.get h).endReason))) ∧
  (∀ (s : State) (c : CompId) (l : Nat), (s.plant.switches.get (.compFlt c)).candidate = some l → 0 < l →
    s.plant.fillersLoad → Gives (.debounceExpiry (.compFlt c)) s fun t =>
      (t.plant.comps.get c).state = if (s.plant.comps.get c).state.running = true then .lockedOut .fault
        else (s.plant.comps.get c).state) ∧
  (∀ (s : State) (x : StageId) (l : Nat), (s.plant.switches.get (.stageFlt x)).candidate = some l → 0 < l →
    Gives (.debounceExpiry (.stageFlt x)) s fun t =>
      (t.plant.stages.get x).state = if (s.plant.stages.get x).state.isFault = true then (s.plant.stages.get x).state
        else .fault .fault) ∧
  ∀ (s : State) (x : SwitchPoint) (l : Nat),
    let r := s.plant.switches.get x
    (r.level = some l → exec (.rawLevel x l) s = .next { s with plant := { s.plant with
      switches := s.plant.switches.set x { r with candidate := none, debounceMs := 0 } } }) ∧
    (r.level ≠ some l → exec (.rawLevel x l) s = .next { s with plant := { s.plant with
      switches := s.plant.switches.set x { r with candidate := some l, debounceMs := 0 } } }) ∧
    (r.candidate = some l → s.plant.passes x.hose = true → Gives (.debounceExpiry x) s fun t =>
      let edge := match r.level with | some o => r.edge.meets o l | none => false
      t.plant.switches = s.plant.switches.set x { r with
        level := some l, candidate := none, debounceMs := r.debounceTime
        flag := r.flag || edge, count := if edge then min 255 (r.count + 1) else r.count } ∧
      t.plant.analogs = s.plant.analogs ∧ t.plant.cfg = s.plant.cfg ∧ t.office.replies = s.office.replies) ∧
    (r.candidate = some l → s.plant.passes x.hose = false → exec (.debounceExpiry x) s = .next { s with plant := { s.plant with
      switches := s.plant.switches.set x { r with level := some l, candidate := none, debounceMs := r.debounceTime } } }) ∧
    (r.candidate = none → exec (.debounceExpiry x) s = .next s)

/-- R173, R14, R16, R17, R39, R48: an in-range sample is the point's value and makes it VALID; an out-of-range one, or 1 s
without a sample, makes a VALID point INVALID and keeps its value; and each reaches the bank with its usable inventory and
its causes OVERPRESSURE and SENSOR, the measured class, or the chiller's band and its candidate. R90, R93, R94, R96 to
R99: at a hose pressure sample a running fill ends above its end pressure plus 2,000 kPa and at its end pressure, and else
commands Dn.PCV to the ramp target, or to 0 with CORRIDOR_HIGH added where the hose stands above the corridor; before
FILLING the test is against the COMM end pressure of the grade; and an INVALID hose pressure ends a fill (R79). That an
OUT_OF_RANGE sample sets the age to 0 (assumption 28), that a timeout raises the age to 1,000, and that it does nothing at
an INVALID point (assumption 3), and that a sample and a timeout of nX.PT of an ABSENT hose stand in its point record
(assumption 23), are the model's choices. -/
def Obligations.AnalogPoints : Prop :=
  ∀ (s : State) (x : AnalogPoint) (v : Nat),
    let r := s.plant.analogs.get x
    (Gives (.analogSample x true v) s fun t =>
      t.plant.analogs = s.plant.analogs.set x ⟨some v, true, 0⟩ ∧ t.plant.switches = s.plant.switches ∧
      (∀ k, x = .bankPt k → (t.plant.banks.get k).pressure = some v) ∧
      (∀ k, x = .bankTt k → (t.plant.banks.get k).temperature = some v) ∧
      (∀ d, x = .tg d → t.plant.measured.get d = classOf v) ∧
      (∀ k, x = .bankPt k → (t.plant.banks.get k).inventory = match (s.plant.banks.get k).temperature with
        | some n => usableInventory v n (s.plant.banks.get k).volume (s.plant.banks.get k).floorP
        | none => 0) ∧
      (∀ k, x = .bankTt k → (t.plant.banks.get k).inventory = match (s.plant.banks.get k).pressure with
        | some n => usableInventory n v (s.plant.banks.get k).volume (s.plant.banks.get k).floorP
        | none => 0) ∧
      (∀ k, x = .bankPt k → (t.plant.banks.get k).causes = { (s.plant.banks.get k).causes with
        overpressure := decide ((s.plant.banks.get k).maxP + 2000 < v)
        sensor := (s.plant.banks.get k).causes.sensor && (s.plant.banks.get k).temperature.isNone }) ∧
      (∀ k, x = .bankTt k → (t.plant.banks.get k).causes = { (s.plant.banks.get k).causes with
        sensor := (s.plant.banks.get k).causes.sensor && (s.plant.banks.get k).pressure.isNone }) ∧
      (x = .ambTt → t.plant.band = s.plant.band ∧ t.plant.candidate =
        if ambientBand v = s.plant.band then none
        else if s.plant.candidate.map Prod.fst = some (ambientBand v) then s.plant.candidate
        else some (ambientBand v, 0)) ∧ s.office.Settled t.office) ∧
    (Gives (.analogSample x false v) s fun t =>
      t.plant.analogs = s.plant.analogs.set x { r with valid := false, ageMs := 0 } ∧
      (r.valid = true →
        (∀ k, x = .bankPt k ∨ x = .bankTt k →
          (t.plant.banks.get k).causes.sensor = true ∧ (t.plant.banks.get k).inventory = 0) ∧
        (∀ k, x = .bankPt k → (t.plant.banks.get k).pressure = none) ∧
        (∀ k, x = .bankTt k → (t.plant.banks.get k).temperature = none) ∧
        (∀ d, x = .tg d → t.plant.measured.get d = .none) ∧
        (x = .ambTt → t.plant.band = 6 ∧ t.plant.candidate = none)) ∧ s.office.Settled t.office) ∧
    (r.valid = true → 0 < r.ageMs → Gives (.analogTimeout x) s fun t =>
      t.plant.analogs = s.plant.analogs.set x { r with valid := false, ageMs := max r.ageMs 1000 } ∧
      (∀ k, x = .bankPt k ∨ x = .bankTt k →
        (t.plant.banks.get k).causes.sensor = true ∧ (t.plant.banks.get k).inventory = 0) ∧
      (∀ d, x = .tg d → t.plant.measured.get d = .none) ∧
      (x = .ambTt → t.plant.band = 6 ∧ t.plant.candidate = none) ∧
      s.office.Settled t.office) ∧
    (r.valid = false ∨ r.ageMs = 0 → exec (.analogTimeout x) s = .next s) ∧
    ∀ h, x = .pt h → s.plant.present h = true → s.plant.oneActive →
      (r.valid = true → (s.plant.sessState h).running = true →
        Gives (.analogSample x false v) s fun t => Ended h .sensorFault t.plant) ∧
      (∀ g, s.plant.grade.get h = some g → s.plant.sessState h = .precheck ∨ s.plant.sessState h = .waitPrecool →
        (if g = .h70 then 87500 else 43750) + 2000 < v →
        Gives (.analogSample x true v) s fun t => Ended h .overpressure t.plant) ∧
      ∀ q, s.plant.fills h.disp q → q.hose = h →
        let aim := min q.endP (q.anchor + q.rate * q.clockMs / 1000)
        (q.endP + 2000 < v → Gives (.analogSample x true v) s fun t => Ended h .overpressure t.plant) ∧
        (q.endP ≤ v → v ≤ q.endP + 2000 →
          Gives (.analogSample x true v) s fun t => Ended h .targetPressure t.plant) ∧
        (v < q.endP → q.pauses = .empty → (s.plant.sessions.get h).bank ≠ none → v ≤ aim + q.corrUp →
          Gives (.analogSample x true v) s fun t => t.plant.sessState h = .filling ∧
            (t.plant.outs.get (.pcv h.disp)).function = some (.setpoint aim) ∧
            (t.plant.disps.get h.disp).ramp = some { q with
              target := aim, lowHold := decide (v + q.corrLow < aim) }) ∧
        (v < q.endP → q.pauses = .empty → (s.plant.sessions.get h).bank ≠ none → aim + q.corrUp < v →
          Gives (.analogSample x true v) s fun t => t.plant.sessState h = .filling ∧
            (t.plant.outs.get (.pcv h.disp)).function = some (.setpoint 0) ∧
            (t.plant.disps.get h.disp).ramp = some { q with
              target := aim, lowHold := false, pauses := { Pauses.empty with corridorHigh := some 0 } })

/-- R174, R75, R76: a meter report is recorded, and its increment goes to the verified mass of the active hose's session,
or to the unverified mass of a tainted one, which FAULT makes it; a silent meter taints a running fill and ends it with
METER_FAULT. R100, R142: a report that brings the predicted amount to the hold ends a fill with ALLOWANCE, and one that
brings the mass to its limit with MASS_LIMIT. R73: the second zero report in a row completes the afterflow. That a timeout
whose timer does not run changes nothing is the model's choice (assumption 3); that a session that goes on to IDLE keeps
its end reason there is read from R55 and R74 (assumption 19). -/
def Obligations.MeterReports : Prop :=
  ∀ (s : State) (d : Disp),
    (∀ n f, s.plant.activeHose d = none → exec (.meterReport d n f) s =
      .next { s with plant := { s.plant with meters := s.plant.meters.set d ⟨some (n, f), 0⟩ } }) ∧
    (∀ n f h, s.plant.activeHose d = some h → Gives (.meterReport d n f) s fun t =>
      let x := s.plant.sessions.get h
      let tainted := x.tainted || f
      t.plant.meters = s.plant.meters.set d ⟨some (n, f), 0⟩ ∧
      (t.plant.sessions.get h).paper = { x.paper with
        verified := if tainted then x.verified else min 200000 (x.verified + n)
        unverified := if tainted then min 200000 (x.unverified + n) else x.unverified
        tainted := tainted } ∧
      (∀ j, j ≠ h → (t.plant.sessions.get j).paper = (s.plant.sessions.get j).paper) ∧
      t.plant.analogs = s.plant.analogs ∧ t.office.replies = s.office.replies) ∧
    (∀ h, s.plant.activeHose d = some h → s.plant.oneActive → (s.plant.sessState h).running = true →
      (s.plant.disps.get d).silence.running = true → (s.plant.sessions.get h).tainted = false →
      Gives (.meterSilenceTimeout d) s fun t => Ended h .meterFault t.plant ∧
        Settled (s.onPlant fun p => p.setSession h { s.plant.sessions.get h with tainted := true }) t) ∧
    ((s.plant.disps.get d).silence.running = false → exec (.meterSilenceTimeout d) s = .next s) ∧
    (∀ n h, s.plant.activeHose d = some h → s.plant.oneActive → (s.plant.sessState h).running = true →
      (s.plant.sessions.get h).tainted = false →
      let x := s.plant.sessions.get h
      let m := min 200000 (x.verified + n) + s.plant.cfg.margin
      let price := x.price.getD 0
      let spent := s.office.isService x = false ∧ price ≠ 0 ∧ x.hold.getD 0 ≤ (price * m + 5000) / 10000
      let full := ∃ l, x.massLimit = some l ∧ l ≤ m
      Gives (.meterReport d n true) s (fun t => Ended h .meterFault t.plant) ∧
      (spent → Gives (.meterReport d n false) s fun t => Ended h .allowance t.plant) ∧
      (¬ spent → full → Gives (.meterReport d n false) s fun t => Ended h .massLimit t.plant) ∧
      (¬ spent → ¬ full → x.state = .filling →
        Gives (.meterReport d n false) s fun t => t.plant.sessState h = .filling)) ∧
    ∀ f h, s.plant.activeHose d = some h → s.plant.sessState h = .ending →
      (1 ≤ (s.plant.disps.get d).zeroCount → Gives (.meterReport d 0 f) s fun t => t.plant.rests h ∧
        (t.plant.sessions.get h).endReason = (s.plant.sessions.get h).endReason) ∧
      ((s.plant.disps.get d).zeroCount = 0 → Gives (.meterReport d 0 f) s fun t =>
        t.plant.sessState h = .ending ∧ (t.plant.disps.get d).zeroCount = 1) ∧
      ∀ n, 0 < n → Gives (.meterReport d n f) s fun t =>
        t.plant.sessState h = .ending ∧ (t.plant.disps.get d).zeroCount = 0

/-- R168, R169, R164, R33, R38, R79: an observed report is recorded; an output that has not followed its command by its
travel limit is a valve fault, which ends the fill of its dispenser, locks its compressor out or faults its stage; a new
command taken first restarts the travel, and no fault is raised. How a report is judged is written out; that of the hose
valve of an ABSENT hose is not judged (R164). That such a report is recorded (assumption 23), and that an expiry at a
point that is not TRAVELLING does nothing (assumption 3), are the model's choices. -/
def Obligations.OutputReadbacks : Prop :=
  ∀ (s : State) (o : OutPoint),
    (∀ v, Gives (.observedReport o v) s fun t =>
      (t.plant.outs.get o).observed = some (OutPoint.reported o v) ∧
      (∀ u, u ≠ o → (t.plant.outs.get u).observed = (s.plant.outs.get u).observed) ∧
      t.plant.switches = s.plant.switches ∧ t.plant.analogs = s.plant.analogs ∧ t.office.replies = s.office.replies) ∧
    ((s.plant.outs.get o).readback = .travelling → 0 < (s.plant.outs.get o).travelMs → s.plant.judged o = true →
      s.plant.fillersLoad →
      Gives (.travelLimitExpiry o) s fun t =>
      (∀ d h, (o = .pcv d ∨ o = .prv d ∨ (∃ k, o = .inlet d k) ∨ ∃ j, j.disp = d ∧ o = .hv j) →
        s.plant.activeHose d = some h → (s.plant.sessState h).running = true →
        t.plant.sessState h = .ending ∧ (t.plant.sessions.get h).endReason = some .valveFault) ∧
      (∀ c, (o = .compRun c ∨ ∃ k, o = .discharge c k) →
        (s.plant.comps.get c).state.running = true ∨ (s.plant.comps.get c).state = .stopped →
        (t.plant.comps.get c).state = .lockedOut .valveFault) ∧
      (∀ x, o = .stageRun x → (s.plant.stages.get x).state.isFault = false →
        (t.plant.stages.get x).state = .fault .valveFault) ∧
      t.plant.switches = s.plant.switches ∧ t.plant.analogs = s.plant.analogs ∧ t.office.replies = s.office.replies) ∧
    ((s.plant.outs.get o).readback ≠ .travelling ∨ (s.plant.outs.get o).travelMs = 0 →
      exec (.travelLimitExpiry o) s = .next s) ∧
    (∀ v, s.plant.judged o = false → exec (.observedReport o v) s = .next (s.onPlant fun p =>
      p.setOut o { p.outs.get o with observed := some (OutPoint.reported o v) })) ∧
    (∀ (r : OutRec) (w : OutVal), r.observe w = ({ r with
      observed := some w
      readback := if r.readback ≠ .agrees ∧ w.agrees r.commanded = true then .agrees else r.readback },
      decide (r.readback = .agrees ∧ w.agrees r.commanded = false))) ∧
    (∀ a b, OutVal.agrees (.position a) (.position b) = decide (a = b)) ∧
    (∀ a b, OutVal.agrees (.setpoint a) (.setpoint b) = decide (a ≤ b + 200 ∧ b ≤ a + 200)) ∧
    ∀ d v, o = .pcv d → s.plant.activeHose d = none → (s.plant.outs.get o).readback = .agrees →
      OutVal.agrees (.setpoint v) (s.plant.outs.get o).commanded = false →
      Gives (.observedReport o v) s fun t => Raised s t (.valveFault o (s.plant.outs.get o).commanded
        (some (.setpoint v)) ((s.plant.outs.get o).owner (s.plant.maint o)))

/-- R107 to R111, R113: a vehicle frame on the line of a fitted hose whose session is not IDLE is counted as valid or
invalid in its receiver; at 1 s without a valid frame, or at the third invalid frame in a row, a COMM fill that waits or
flows is LOST. R112, R114, R115, R98, R99: a valid frame keeps the state of charge of a COMM fill current, ends a fill by
its command, its temperature or its state of charge, and adds or removes VEHICLE_HALT. R116, R127 to R129: a COUPLED hose
of a depot-mode dispenser has its vehicle sought in the depot queue. That an expiry with no frame held does nothing, and
that the expiry raises the age to 1,000, are the model's choices (assumption 3). -/
def Obligations.VehicleLine : Prop :=
  (∀ (g : Grade) (f : VehFrame), rejection g f =
    if (crc16 (frameBytes f)).toNat ≠ f.check then some .check
    else if f.nwp ≠ (if g = .h70 then 70 else 35) then some .nwp
    else if 100000 < f.pressure ∨ f.temperature < 2000 ∨ 3730 < f.temperature ∨
      f.volume < (if g = .h70 then 10 else 100) ∨ (if g = .h70 then 500 else 5000) < f.volume then some .range
    else if 2 < f.command then some .command else none) ∧
  ∀ (s : State) (h : Hose),
    (∀ f, s.plant.grade.get h = none ∨ s.plant.sessState h = .idle → exec (.vehicleFrame h f) s = .next s) ∧
    (∀ f g, s.plant.grade.get h = some g → s.plant.sessState h ≠ .idle → Gives (.vehicleFrame h f) s fun t =>
      let r := s.plant.receivers.get h
      t.plant.receivers = s.plant.receivers.set h (match rejection g f with
        | none => { r with frame := some f, ageMs := 0, invalidRun := 0, validCount := min 65535 (r.validCount + 1) }
        | some e => { r with invalidRun := min 255 (r.invalidRun + 1), invalidCount := min 65535 (r.invalidCount + 1)
                             lastRejection := some e }) ∧
      t.plant.switches = s.plant.switches ∧ t.plant.analogs = s.plant.analogs ∧ t.office.replies = s.office.replies) ∧
    ((s.plant.receivers.get h).frame = none → exec (.frameAgeExpiry h) s = .next s) ∧
    ((s.plant.receivers.get h).ageMs = 0 → exec (.frameAgeExpiry h) s = .next s) ∧
    ((s.plant.receivers.get h).frame ≠ none → 0 < (s.plant.receivers.get h).ageMs → Gives (.frameAgeExpiry h) s fun t =>
      let r := s.plant.receivers.get h
      let x := s.plant.sessions.get h
      t.plant.receivers = s.plant.receivers.set h { r with ageMs := max r.ageMs 1000 } ∧
      (t.plant.sessions.get h).comm = (if r.invalidRun < 3 ∧ x.comm = some .comm ∧
        (x.state = .waitPrecool ∨ x.state = .filling) then some .lost else x.comm) ∧
      t.plant.switches = s.plant.switches ∧ t.plant.analogs = s.plant.analogs ∧ s.office.Settled t.office) ∧
    (∀ f g e, s.plant.grade.get h = some g → s.plant.sessState h = .waitPrecool ∨ s.plant.sessState h = .filling →
      rejection g f = some e → Gives (.vehicleFrame h f) s fun t =>
        (t.plant.sessions.get h).comm = if (s.plant.receivers.get h).state = .current ∧
          (s.plant.receivers.get h).invalidRun = 2 ∧ (s.plant.sessions.get h).comm = some .comm then some .lost
          else (s.plant.sessions.get h).comm) ∧
    (∀ f g, s.plant.grade.get h = some g → rejection g f = none →
      let x := s.plant.sessions.get h
      let heard := soc g f.pressure f.temperature
      let flows := x.state = .filling ∧ x.comm = some .comm
      let hot := flows ∧ 3581 ≤ f.temperature
      let reached := flows ∧ x.targetSoc.getD 980 ≤ heard
      (x.state.running = true → Gives (.vehicleFrame h f) s fun t =>
        (t.plant.sessions.get h).lastSoc = (if x.state ≠ .precheck ∧ x.comm = some .comm then some heard else x.lastSoc) ∧
        (t.plant.sessions.get h).socFrame = if x.state ≠ .precheck ∧ x.comm = some .comm then some f else x.socFrame) ∧
      (s.plant.oneActive → hot → Gives (.vehicleFrame h f) s fun t => Ended h .overtemp t.plant) ∧
      (s.plant.oneActive → x.state.running = true → ¬ hot → f.command = 2 →
        Gives (.vehicleFrame h f) s fun t => Ended h .vehicleAbort t.plant) ∧
      (s.plant.oneActive → ¬ hot → f.command ≠ 2 → reached →
        Gives (.vehicleFrame h f) s fun t => Ended h .targetSoc t.plant) ∧
      ∀ q, s.plant.fills h.disp q → q.hose = h → s.plant.oneActive → ¬ hot → ¬ reached →
        (f.command = 1 → Gives (.vehicleFrame h f) s fun t => t.plant.sessState h = .filling ∧
          ∃ u, (t.plant.disps.get h.disp).ramp = some u ∧
            u.pauses.vehicleHalt = some (q.pauses.vehicleHalt.getD 0) ∧
            (q.pauses = .empty → (t.plant.outs.get (.pcv h.disp)).function = some (.setpoint 0))) ∧
        (f.command = 0 → Gives (.vehicleFrame h f) s fun t => t.plant.sessState h = .filling ∧
          ∃ u, (t.plant.disps.get h.disp).ramp = some u ∧ u.pauses.vehicleHalt = none)) ∧
    (∀ f g, s.plant.grade.get h = some g → rejection g f = none → s.plant.sessState h = .coupled →
      let heard := s.onPlant fun p => p.setReceiver h ((p.receivers.get h).hear f)
      let u := if (s.plant.disps.get h.disp).depotMode = true ∧ f.vehicleId ≠ 0 then forward h f.vehicleId heard else heard
      Gives (.vehicleFrame h f) s fun t => Settled u t ∧
        t.office.seeks.get h = if t.plant.sessState h = .coupled then u.office.seeks.get h else none) ∧
    ∀ id : Nat,
      let shut := s.plant.mode ≠ .opened ∨ s.plant.trip = true ∨ (s.plant.disps.get h.disp).park ≠ .active ∨
        s.office.seeks.get h = some ⟨id, .refused⟩
      let put := fun x : SeekOutcome => s.onOffice fun o => { o with seeks := o.seeks.set h (some ⟨id, x⟩) }
      (shut → forward h id s = s) ∧
      (¬ shut → findOrder id s.office.queue = none →
        forward h id s = if s.office.inService id = true then
          (put .refused).onPlant (notify (.orderRefused id h .duplicate)) else put .notFound) ∧
      ∀ i r, ¬ shut → findOrder id s.office.queue = some (i, r) →
        (i < 6 ∧ r.mask.get h.disp = true →
          (∀ y, authCheck h (orderAsk r) s = .ok y → forward h id s = serveOrder h r y s) ∧
          ∀ c, authCheck h (orderAsk r) s = .error c →
            forward h id s = (put .refused).onPlant (notify (.orderRefused id h c))) ∧
        (¬ (i < 6 ∧ r.mask.get h.disp = true) → forward h id s =
          if s.office.seeks.get h = some ⟨id, .outOfTurn⟩ then put .outOfTurn
          else (put .outOfTurn).onPlant (notify (.orderOutOfTurn id h (i + 1) (r.mask.get h.disp))))

/-! ## Invariants of every step -/

/-- The reset state is safe: every rule that the invariants below carry holds right after power-on. -/
def Obligations.ResetIsSafe : Prop := Safe State.reset

/-- R134: every step keeps the balance of every credential entry, and the table in its canonical form. -/
def Obligations.BalancesKept : Prop :=
  ∀ s t : State, s.office.balanced = true → s.office.tableForm = true → step s = .next t →
    t.office.balanced = true ∧ t.office.tableForm = true

/-- R119, R125, R126, R152, R157, R187, R189: every step keeps the queues and the logs within their places, and the window
demand and the depot reports passed on as the depot queue gives them. -/
def Obligations.PlacesAndWindowKept : Prop :=
  ∀ s t : State, s.bounded = true → s.windowPassed → step s = .next t → t.bounded = true ∧ t.windowPassed

/-- R166: every step leaves every output commanded to the value of its effective owner. -/
def Obligations.OutputsFollowOwners : Prop :=
  ∀ s t : State, s.plant.outputsFollow → step s = .next t → t.plant.outputsFollow

/-- R166, R181, R182: every step keeps HOLD and TRIP as their sources form them, and the SAFETY claims with TRIP: while
TRIP is true every output carries its fail-safe value as a SAFETY claim. -/
def Obligations.ConditionsKept : Prop :=
  ∀ s t : State, s.plant.conditionsFormed → s.plant.safetyFollows → step s = .next t →
    t.plant.conditionsFormed ∧ t.plant.safetyFollows

/-- R13 to R16, R30: every step keeps the isolated banks empty, and the fillers of the banks as the compressors are
LOADED; it keeps the pressures of each bank in their order, and the usable inventory of each as its samples give it. -/
def Obligations.BanksKept : Prop :=
  (∀ s t : State, s.plant.isolatedEmpty → s.plant.fillersLoad → step s = .next t →
    t.plant.isolatedEmpty ∧ t.plant.fillersLoad) ∧
  (∀ s t : State, s.plant.pressuresOrdered → step s = .next t → t.plant.pressuresOrdered) ∧
  ∀ s t : State, s.plant.inventoriesHeld → step s = .next t → t.plant.inventoriesHeld

/-- R40 to R42, R55, R56: every step keeps the grant list in its order and within the capacity of the loop, at most one
hose of each dispenser in a flowing state, and the session of an absent hose IDLE. -/
def Obligations.GrantsAndHosesKept : Prop :=
  ∀ s t : State, s.plant.grantsSound → s.plant.oneActive → s.plant.absentIdle → step s = .next t →
    t.plant.grantsSound ∧ t.plant.oneActive ∧ t.plant.absentIdle
end

