-- ==== Sys2Proof/Laws/State.lean ====
section
/-! SUPPORT. One lemma for each field and each update of the state, true by computation, so that no later proof unfolds a
record update. -/

namespace Sys2Proof.Machine

section
variable (p : Plant) (s : State)

@[simp] theorem setSession_mode (h : Hose) (x : Session) : (p.setSession h x).mode = p.mode := rfl
@[simp] theorem setSession_closeKind (h : Hose) (x : Session) : (p.setSession h x).closeKind = p.closeKind := rfl
@[simp] theorem setSession_quiet (h : Hose) (x : Session) : (p.setSession h x).quiet = p.quiet := rfl
@[simp] theorem setSession_shutdownGiven (h : Hose) (x : Session) : (p.setSession h x).shutdownGiven = p.shutdownGiven := rfl
@[simp] theorem setSession_hostHold (h : Hose) (x : Session) : (p.setSession h x).hostHold = p.hostHold := rfl
@[simp] theorem setSession_hostTrip (h : Hose) (x : Session) : (p.setSession h x).hostTrip = p.hostTrip := rfl
@[simp] theorem setSession_hold (h : Hose) (x : Session) : (p.setSession h x).hold = p.hold := rfl
@[simp] theorem setSession_trip (h : Hose) (x : Session) : (p.setSession h x).trip = p.trip := rfl
@[simp] theorem setSession_cfg (h : Hose) (x : Session) : (p.setSession h x).cfg = p.cfg := rfl
@[simp] theorem setSession_grade (h : Hose) (x : Session) : (p.setSession h x).grade = p.grade := rfl
@[simp] theorem setSession_derate (h : Hose) (x : Session) : (p.setSession h x).derate = p.derate := rfl
@[simp] theorem setSession_outs (h : Hose) (x : Session) : (p.setSession h x).outs = p.outs := rfl
@[simp] theorem setSession_switches (h : Hose) (x : Session) : (p.setSession h x).switches = p.switches := rfl
@[simp] theorem setSession_analogs (h : Hose) (x : Session) : (p.setSession h x).analogs = p.analogs := rfl
@[simp] theorem setSession_meters (h : Hose) (x : Session) : (p.setSession h x).meters = p.meters := rfl
@[simp] theorem setSession_banks (h : Hose) (x : Session) : (p.setSession h x).banks = p.banks := rfl
@[simp] theorem setSession_comps (h : Hose) (x : Session) : (p.setSession h x).comps = p.comps := rfl
@[simp] theorem setSession_windowDemand (h : Hose) (x : Session) : (p.setSession h x).windowDemand = p.windowDemand := rfl
@[simp] theorem setSession_stages (h : Hose) (x : Session) : (p.setSession h x).stages = p.stages := rfl
@[simp] theorem setSession_band (h : Hose) (x : Session) : (p.setSession h x).band = p.band := rfl
@[simp] theorem setSession_candidate (h : Hose) (x : Session) : (p.setSession h x).candidate = p.candidate := rfl
@[simp] theorem setSession_grants (h : Hose) (x : Session) : (p.setSession h x).grants = p.grants := rfl
@[simp] theorem setSession_armT (h : Hose) (x : Session) : (p.setSession h x).armT = p.armT := rfl
@[simp] theorem setSession_keepT (h : Hose) (x : Session) : (p.setSession h x).keepT = p.keepT := rfl
@[simp] theorem setSession_reports (h : Hose) (x : Session) : (p.setSession h x).reports = p.reports := rfl
@[simp] theorem setSession_measured (h : Hose) (x : Session) : (p.setSession h x).measured = p.measured := rfl
@[simp] theorem setSession_stopT (h : Hose) (x : Session) : (p.setSession h x).stopT = p.stopT := rfl
@[simp] theorem setSession_classSettle (h : Hose) (x : Session) : (p.setSession h x).classSettle = p.classSettle := rfl
@[simp] theorem setSession_classStep (h : Hose) (x : Session) : (p.setSession h x).classStep = p.classStep := rfl
@[simp] theorem setSession_sessions (h : Hose) (x : Session) : (p.setSession h x).sessions = p.sessions.set h x := rfl
@[simp] theorem setSession_disps (h : Hose) (x : Session) : (p.setSession h x).disps = p.disps := rfl
@[simp] theorem setSession_receivers (h : Hose) (x : Session) : (p.setSession h x).receivers = p.receivers := rfl
@[simp] theorem setSession_notices (h : Hose) (x : Session) : (p.setSession h x).notices = p.notices := rfl
@[simp] theorem setSession_lost (h : Hose) (x : Session) : (p.setSession h x).lost = p.lost := rfl
@[simp] theorem setSession_renewDue (h : Hose) (x : Session) : (p.setSession h x).renewDue = p.renewDue := rfl

@[simp] theorem setDisp_mode (d : Disp) (x : DispCtx) : (p.setDisp d x).mode = p.mode := rfl
@[simp] theorem setDisp_closeKind (d : Disp) (x : DispCtx) : (p.setDisp d x).closeKind = p.closeKind := rfl
@[simp] theorem setDisp_quiet (d : Disp) (x : DispCtx) : (p.setDisp d x).quiet = p.quiet := rfl
@[simp] theorem setDisp_shutdownGiven (d : Disp) (x : DispCtx) : (p.setDisp d x).shutdownGiven = p.shutdownGiven := rfl
@[simp] theorem setDisp_hostHold (d : Disp) (x : DispCtx) : (p.setDisp d x).hostHold = p.hostHold := rfl
@[simp] theorem setDisp_hostTrip (d : Disp) (x : DispCtx) : (p.setDisp d x).hostTrip = p.hostTrip := rfl
@[simp] theorem setDisp_hold (d : Disp) (x : DispCtx) : (p.setDisp d x).hold = p.hold := rfl
@[simp] theorem setDisp_trip (d : Disp) (x : DispCtx) : (p.setDisp d x).trip = p.trip := rfl
@[simp] theorem setDisp_cfg (d : Disp) (x : DispCtx) : (p.setDisp d x).cfg = p.cfg := rfl
@[simp] theorem setDisp_grade (d : Disp) (x : DispCtx) : (p.setDisp d x).grade = p.grade := rfl
@[simp] theorem setDisp_derate (d : Disp) (x : DispCtx) : (p.setDisp d x).derate = p.derate := rfl
@[simp] theorem setDisp_outs (d : Disp) (x : DispCtx) : (p.setDisp d x).outs = p.outs := rfl
@[simp] theorem setDisp_switches (d : Disp) (x : DispCtx) : (p.setDisp d x).switches = p.switches := rfl
@[simp] theorem setDisp_analogs (d : Disp) (x : DispCtx) : (p.setDisp d x).analogs = p.analogs := rfl
@[simp] theorem setDisp_meters (d : Disp) (x : DispCtx) : (p.setDisp d x).meters = p.meters := rfl
@[simp] theorem setDisp_banks (d : Disp) (x : DispCtx) : (p.setDisp d x).banks = p.banks := rfl
@[simp] theorem setDisp_comps (d : Disp) (x : DispCtx) : (p.setDisp d x).comps = p.comps := rfl
@[simp] theorem setDisp_windowDemand (d : Disp) (x : DispCtx) : (p.setDisp d x).windowDemand = p.windowDemand := rfl
@[simp] theorem setDisp_stages (d : Disp) (x : DispCtx) : (p.setDisp d x).stages = p.stages := rfl
@[simp] theorem setDisp_band (d : Disp) (x : DispCtx) : (p.setDisp d x).band = p.band := rfl
@[simp] theorem setDisp_candidate (d : Disp) (x : DispCtx) : (p.setDisp d x).candidate = p.candidate := rfl
@[simp] theorem setDisp_grants (d : Disp) (x : DispCtx) : (p.setDisp d x).grants = p.grants := rfl
@[simp] theorem setDisp_armT (d : Disp) (x : DispCtx) : (p.setDisp d x).armT = p.armT := rfl
@[simp] theorem setDisp_keepT (d : Disp) (x : DispCtx) : (p.setDisp d x).keepT = p.keepT := rfl
@[simp] theorem setDisp_reports (d : Disp) (x : DispCtx) : (p.setDisp d x).reports = p.reports := rfl
@[simp] theorem setDisp_measured (d : Disp) (x : DispCtx) : (p.setDisp d x).measured = p.measured := rfl
@[simp] theorem setDisp_stopT (d : Disp) (x : DispCtx) : (p.setDisp d x).stopT = p.stopT := rfl
@[simp] theorem setDisp_classSettle (d : Disp) (x : DispCtx) : (p.setDisp d x).classSettle = p.classSettle := rfl
@[simp] theorem setDisp_classStep (d : Disp) (x : DispCtx) : (p.setDisp d x).classStep = p.classStep := rfl
@[simp] theorem setDisp_sessions (d : Disp) (x : DispCtx) : (p.setDisp d x).sessions = p.sessions := rfl
@[simp] theorem setDisp_disps (d : Disp) (x : DispCtx) : (p.setDisp d x).disps = p.disps.set d x := rfl
@[simp] theorem setDisp_receivers (d : Disp) (x : DispCtx) : (p.setDisp d x).receivers = p.receivers := rfl
@[simp] theorem setDisp_notices (d : Disp) (x : DispCtx) : (p.setDisp d x).notices = p.notices := rfl
@[simp] theorem setDisp_lost (d : Disp) (x : DispCtx) : (p.setDisp d x).lost = p.lost := rfl
@[simp] theorem setDisp_renewDue (d : Disp) (x : DispCtx) : (p.setDisp d x).renewDue = p.renewDue := rfl

@[simp] theorem setOut_mode (o : OutPoint) (r : OutRec) : (p.setOut o r).mode = p.mode := rfl
@[simp] theorem setOut_closeKind (o : OutPoint) (r : OutRec) : (p.setOut o r).closeKind = p.closeKind := rfl
@[simp] theorem setOut_quiet (o : OutPoint) (r : OutRec) : (p.setOut o r).quiet = p.quiet := rfl
@[simp] theorem setOut_shutdownGiven (o : OutPoint) (r : OutRec) : (p.setOut o r).shutdownGiven = p.shutdownGiven := rfl
@[simp] theorem setOut_hostHold (o : OutPoint) (r : OutRec) : (p.setOut o r).hostHold = p.hostHold := rfl
@[simp] theorem setOut_hostTrip (o : OutPoint) (r : OutRec) : (p.setOut o r).hostTrip = p.hostTrip := rfl
@[simp] theorem setOut_hold (o : OutPoint) (r : OutRec) : (p.setOut o r).hold = p.hold := rfl
@[simp] theorem setOut_trip (o : OutPoint) (r : OutRec) : (p.setOut o r).trip = p.trip := rfl
@[simp] theorem setOut_cfg (o : OutPoint) (r : OutRec) : (p.setOut o r).cfg = p.cfg := rfl
@[simp] theorem setOut_grade (o : OutPoint) (r : OutRec) : (p.setOut o r).grade = p.grade := rfl
@[simp] theorem setOut_derate (o : OutPoint) (r : OutRec) : (p.setOut o r).derate = p.derate := rfl
@[simp] theorem setOut_outs (o : OutPoint) (r : OutRec) : (p.setOut o r).outs = p.outs.set o r := rfl
@[simp] theorem setOut_switches (o : OutPoint) (r : OutRec) : (p.setOut o r).switches = p.switches := rfl
@[simp] theorem setOut_analogs (o : OutPoint) (r : OutRec) : (p.setOut o r).analogs = p.analogs := rfl
@[simp] theorem setOut_meters (o : OutPoint) (r : OutRec) : (p.setOut o r).meters = p.meters := rfl
@[simp] theorem setOut_banks (o : OutPoint) (r : OutRec) : (p.setOut o r).banks = p.banks := rfl
@[simp] theorem setOut_comps (o : OutPoint) (r : OutRec) : (p.setOut o r).comps = p.comps := rfl
@[simp] theorem setOut_windowDemand (o : OutPoint) (r : OutRec) : (p.setOut o r).windowDemand = p.windowDemand := rfl
@[simp] theorem setOut_stages (o : OutPoint) (r : OutRec) : (p.setOut o r).stages = p.stages := rfl
@[simp] theorem setOut_band (o : OutPoint) (r : OutRec) : (p.setOut o r).band = p.band := rfl
@[simp] theorem setOut_candidate (o : OutPoint) (r : OutRec) : (p.setOut o r).candidate = p.candidate := rfl
@[simp] theorem setOut_grants (o : OutPoint) (r : OutRec) : (p.setOut o r).grants = p.grants := rfl
@[simp] theorem setOut_armT (o : OutPoint) (r : OutRec) : (p.setOut o r).armT = p.armT := rfl
@[simp] theorem setOut_keepT (o : OutPoint) (r : OutRec) : (p.setOut o r).keepT = p.keepT := rfl
@[simp] theorem setOut_reports (o : OutPoint) (r : OutRec) : (p.setOut o r).reports = p.reports := rfl
@[simp] theorem setOut_measured (o : OutPoint) (r : OutRec) : (p.setOut o r).measured = p.measured := rfl
@[simp] theorem setOut_stopT (o : OutPoint) (r : OutRec) : (p.setOut o r).stopT = p.stopT := rfl
@[simp] theorem setOut_classSettle (o : OutPoint) (r : OutRec) : (p.setOut o r).classSettle = p.classSettle := rfl
@[simp] theorem setOut_classStep (o : OutPoint) (r : OutRec) : (p.setOut o r).classStep = p.classStep := rfl
@[simp] theorem setOut_sessions (o : OutPoint) (r : OutRec) : (p.setOut o r).sessions = p.sessions := rfl
@[simp] theorem setOut_disps (o : OutPoint) (r : OutRec) : (p.setOut o r).disps = p.disps := rfl
@[simp] theorem setOut_receivers (o : OutPoint) (r : OutRec) : (p.setOut o r).receivers = p.receivers := rfl
@[simp] theorem setOut_notices (o : OutPoint) (r : OutRec) : (p.setOut o r).notices = p.notices := rfl
@[simp] theorem setOut_lost (o : OutPoint) (r : OutRec) : (p.setOut o r).lost = p.lost := rfl
@[simp] theorem setOut_renewDue (o : OutPoint) (r : OutRec) : (p.setOut o r).renewDue = p.renewDue := rfl

@[simp] theorem setSwitch_mode (x : SwitchPoint) (r : SwitchRec) : (p.setSwitch x r).mode = p.mode := rfl
@[simp] theorem setSwitch_closeKind (x : SwitchPoint) (r : SwitchRec) : (p.setSwitch x r).closeKind = p.closeKind := rfl
@[simp] theorem setSwitch_quiet (x : SwitchPoint) (r : SwitchRec) : (p.setSwitch x r).quiet = p.quiet := rfl
@[simp] theorem setSwitch_shutdownGiven (x : SwitchPoint) (r : SwitchRec) : (p.setSwitch x r).shutdownGiven = p.shutdownGiven := rfl
@[simp] theorem setSwitch_hostHold (x : SwitchPoint) (r : SwitchRec) : (p.setSwitch x r).hostHold = p.hostHold := rfl
@[simp] theorem setSwitch_hostTrip (x : SwitchPoint) (r : SwitchRec) : (p.setSwitch x r).hostTrip = p.hostTrip := rfl
@[simp] theorem setSwitch_hold (x : SwitchPoint) (r : SwitchRec) : (p.setSwitch x r).hold = p.hold := rfl
@[simp] theorem setSwitch_trip (x : SwitchPoint) (r : SwitchRec) : (p.setSwitch x r).trip = p.trip := rfl
@[simp] theorem setSwitch_cfg (x : SwitchPoint) (r : SwitchRec) : (p.setSwitch x r).cfg = p.cfg := rfl
@[simp] theorem setSwitch_grade (x : SwitchPoint) (r : SwitchRec) : (p.setSwitch x r).grade = p.grade := rfl
@[simp] theorem setSwitch_derate (x : SwitchPoint) (r : SwitchRec) : (p.setSwitch x r).derate = p.derate := rfl
@[simp] theorem setSwitch_outs (x : SwitchPoint) (r : SwitchRec) : (p.setSwitch x r).outs = p.outs := rfl
@[simp] theorem setSwitch_switches (x : SwitchPoint) (r : SwitchRec) : (p.setSwitch x r).switches = p.switches.set x r := rfl
@[simp] theorem setSwitch_analogs (x : SwitchPoint) (r : SwitchRec) : (p.setSwitch x r).analogs = p.analogs := rfl
@[simp] theorem setSwitch_meters (x : SwitchPoint) (r : SwitchRec) : (p.setSwitch x r).meters = p.meters := rfl
@[simp] theorem setSwitch_banks (x : SwitchPoint) (r : SwitchRec) : (p.setSwitch x r).banks = p.banks := rfl
@[simp] theorem setSwitch_comps (x : SwitchPoint) (r : SwitchRec) : (p.setSwitch x r).comps = p.comps := rfl
@[simp] theorem setSwitch_windowDemand (x : SwitchPoint) (r : SwitchRec) : (p.setSwitch x r).windowDemand = p.windowDemand := rfl
@[simp] theorem setSwitch_stages (x : SwitchPoint) (r : SwitchRec) : (p.setSwitch x r).stages = p.stages := rfl
@[simp] theorem setSwitch_band (x : SwitchPoint) (r : SwitchRec) : (p.setSwitch x r).band = p.band := rfl
@[simp] theorem setSwitch_candidate (x : SwitchPoint) (r : SwitchRec) : (p.setSwitch x r).candidate = p.candidate := rfl
@[simp] theorem setSwitch_grants (x : SwitchPoint) (r : SwitchRec) : (p.setSwitch x r).grants = p.grants := rfl
@[simp] theorem setSwitch_armT (x : SwitchPoint) (r : SwitchRec) : (p.setSwitch x r).armT = p.armT := rfl
@[simp] theorem setSwitch_keepT (x : SwitchPoint) (r : SwitchRec) : (p.setSwitch x r).keepT = p.keepT := rfl
@[simp] theorem setSwitch_reports (x : SwitchPoint) (r : SwitchRec) : (p.setSwitch x r).reports = p.reports := rfl
@[simp] theorem setSwitch_measured (x : SwitchPoint) (r : SwitchRec) : (p.setSwitch x r).measured = p.measured := rfl
@[simp] theorem setSwitch_stopT (x : SwitchPoint) (r : SwitchRec) : (p.setSwitch x r).stopT = p.stopT := rfl
@[simp] theorem setSwitch_classSettle (x : SwitchPoint) (r : SwitchRec) : (p.setSwitch x r).classSettle = p.classSettle := rfl
@[simp] theorem setSwitch_classStep (x : SwitchPoint) (r : SwitchRec) : (p.setSwitch x r).classStep = p.classStep := rfl
@[simp] theorem setSwitch_sessions (x : SwitchPoint) (r : SwitchRec) : (p.setSwitch x r).sessions = p.sessions := rfl
@[simp] theorem setSwitch_disps (x : SwitchPoint) (r : SwitchRec) : (p.setSwitch x r).disps = p.disps := rfl
@[simp] theorem setSwitch_receivers (x : SwitchPoint) (r : SwitchRec) : (p.setSwitch x r).receivers = p.receivers := rfl
@[simp] theorem setSwitch_notices (x : SwitchPoint) (r : SwitchRec) : (p.setSwitch x r).notices = p.notices := rfl
@[simp] theorem setSwitch_lost (x : SwitchPoint) (r : SwitchRec) : (p.setSwitch x r).lost = p.lost := rfl
@[simp] theorem setSwitch_renewDue (x : SwitchPoint) (r : SwitchRec) : (p.setSwitch x r).renewDue = p.renewDue := rfl

@[simp] theorem setAnalog_mode (x : AnalogPoint) (r : AnalogRec) : (p.setAnalog x r).mode = p.mode := rfl
@[simp] theorem setAnalog_closeKind (x : AnalogPoint) (r : AnalogRec) : (p.setAnalog x r).closeKind = p.closeKind := rfl
@[simp] theorem setAnalog_quiet (x : AnalogPoint) (r : AnalogRec) : (p.setAnalog x r).quiet = p.quiet := rfl
@[simp] theorem setAnalog_shutdownGiven (x : AnalogPoint) (r : AnalogRec) : (p.setAnalog x r).shutdownGiven = p.shutdownGiven := rfl
@[simp] theorem setAnalog_hostHold (x : AnalogPoint) (r : AnalogRec) : (p.setAnalog x r).hostHold = p.hostHold := rfl
@[simp] theorem setAnalog_hostTrip (x : AnalogPoint) (r : AnalogRec) : (p.setAnalog x r).hostTrip = p.hostTrip := rfl
@[simp] theorem setAnalog_hold (x : AnalogPoint) (r : AnalogRec) : (p.setAnalog x r).hold = p.hold := rfl
@[simp] theorem setAnalog_trip (x : AnalogPoint) (r : AnalogRec) : (p.setAnalog x r).trip = p.trip := rfl
@[simp] theorem setAnalog_cfg (x : AnalogPoint) (r : AnalogRec) : (p.setAnalog x r).cfg = p.cfg := rfl
@[simp] theorem setAnalog_grade (x : AnalogPoint) (r : AnalogRec) : (p.setAnalog x r).grade = p.grade := rfl
@[simp] theorem setAnalog_derate (x : AnalogPoint) (r : AnalogRec) : (p.setAnalog x r).derate = p.derate := rfl
@[simp] theorem setAnalog_outs (x : AnalogPoint) (r : AnalogRec) : (p.setAnalog x r).outs = p.outs := rfl
@[simp] theorem setAnalog_switches (x : AnalogPoint) (r : AnalogRec) : (p.setAnalog x r).switches = p.switches := rfl
@[simp] theorem setAnalog_analogs (x : AnalogPoint) (r : AnalogRec) : (p.setAnalog x r).analogs = p.analogs.set x r := rfl
@[simp] theorem setAnalog_meters (x : AnalogPoint) (r : AnalogRec) : (p.setAnalog x r).meters = p.meters := rfl
@[simp] theorem setAnalog_banks (x : AnalogPoint) (r : AnalogRec) : (p.setAnalog x r).banks = p.banks := rfl
@[simp] theorem setAnalog_comps (x : AnalogPoint) (r : AnalogRec) : (p.setAnalog x r).comps = p.comps := rfl
@[simp] theorem setAnalog_windowDemand (x : AnalogPoint) (r : AnalogRec) : (p.setAnalog x r).windowDemand = p.windowDemand := rfl
@[simp] theorem setAnalog_stages (x : AnalogPoint) (r : AnalogRec) : (p.setAnalog x r).stages = p.stages := rfl
@[simp] theorem setAnalog_band (x : AnalogPoint) (r : AnalogRec) : (p.setAnalog x r).band = p.band := rfl
@[simp] theorem setAnalog_candidate (x : AnalogPoint) (r : AnalogRec) : (p.setAnalog x r).candidate = p.candidate := rfl
@[simp] theorem setAnalog_grants (x : AnalogPoint) (r : AnalogRec) : (p.setAnalog x r).grants = p.grants := rfl
@[simp] theorem setAnalog_armT (x : AnalogPoint) (r : AnalogRec) : (p.setAnalog x r).armT = p.armT := rfl
@[simp] theorem setAnalog_keepT (x : AnalogPoint) (r : AnalogRec) : (p.setAnalog x r).keepT = p.keepT := rfl
@[simp] theorem setAnalog_reports (x : AnalogPoint) (r : AnalogRec) : (p.setAnalog x r).reports = p.reports := rfl
@[simp] theorem setAnalog_measured (x : AnalogPoint) (r : AnalogRec) : (p.setAnalog x r).measured = p.measured := rfl
@[simp] theorem setAnalog_stopT (x : AnalogPoint) (r : AnalogRec) : (p.setAnalog x r).stopT = p.stopT := rfl
@[simp] theorem setAnalog_classSettle (x : AnalogPoint) (r : AnalogRec) : (p.setAnalog x r).classSettle = p.classSettle := rfl
@[simp] theorem setAnalog_classStep (x : AnalogPoint) (r : AnalogRec) : (p.setAnalog x r).classStep = p.classStep := rfl
@[simp] theorem setAnalog_sessions (x : AnalogPoint) (r : AnalogRec) : (p.setAnalog x r).sessions = p.sessions := rfl
@[simp] theorem setAnalog_disps (x : AnalogPoint) (r : AnalogRec) : (p.setAnalog x r).disps = p.disps := rfl
@[simp] theorem setAnalog_receivers (x : AnalogPoint) (r : AnalogRec) : (p.setAnalog x r).receivers = p.receivers := rfl
@[simp] theorem setAnalog_notices (x : AnalogPoint) (r : AnalogRec) : (p.setAnalog x r).notices = p.notices := rfl
@[simp] theorem setAnalog_lost (x : AnalogPoint) (r : AnalogRec) : (p.setAnalog x r).lost = p.lost := rfl
@[simp] theorem setAnalog_renewDue (x : AnalogPoint) (r : AnalogRec) : (p.setAnalog x r).renewDue = p.renewDue := rfl

@[simp] theorem setReceiver_mode (h : Hose) (r : Receiver) : (p.setReceiver h r).mode = p.mode := rfl
@[simp] theorem setReceiver_closeKind (h : Hose) (r : Receiver) : (p.setReceiver h r).closeKind = p.closeKind := rfl
@[simp] theorem setReceiver_quiet (h : Hose) (r : Receiver) : (p.setReceiver h r).quiet = p.quiet := rfl
@[simp] theorem setReceiver_shutdownGiven (h : Hose) (r : Receiver) : (p.setReceiver h r).shutdownGiven = p.shutdownGiven := rfl
@[simp] theorem setReceiver_hostHold (h : Hose) (r : Receiver) : (p.setReceiver h r).hostHold = p.hostHold := rfl
@[simp] theorem setReceiver_hostTrip (h : Hose) (r : Receiver) : (p.setReceiver h r).hostTrip = p.hostTrip := rfl
@[simp] theorem setReceiver_hold (h : Hose) (r : Receiver) : (p.setReceiver h r).hold = p.hold := rfl
@[simp] theorem setReceiver_trip (h : Hose) (r : Receiver) : (p.setReceiver h r).trip = p.trip := rfl
@[simp] theorem setReceiver_cfg (h : Hose) (r : Receiver) : (p.setReceiver h r).cfg = p.cfg := rfl
@[simp] theorem setReceiver_grade (h : Hose) (r : Receiver) : (p.setReceiver h r).grade = p.grade := rfl
@[simp] theorem setReceiver_derate (h : Hose) (r : Receiver) : (p.setReceiver h r).derate = p.derate := rfl
@[simp] theorem setReceiver_outs (h : Hose) (r : Receiver) : (p.setReceiver h r).outs = p.outs := rfl
@[simp] theorem setReceiver_switches (h : Hose) (r : Receiver) : (p.setReceiver h r).switches = p.switches := rfl
@[simp] theorem setReceiver_analogs (h : Hose) (r : Receiver) : (p.setReceiver h r).analogs = p.analogs := rfl
@[simp] theorem setReceiver_meters (h : Hose) (r : Receiver) : (p.setReceiver h r).meters = p.meters := rfl
@[simp] theorem setReceiver_banks (h : Hose) (r : Receiver) : (p.setReceiver h r).banks = p.banks := rfl
@[simp] theorem setReceiver_comps (h : Hose) (r : Receiver) : (p.setReceiver h r).comps = p.comps := rfl
@[simp] theorem setReceiver_windowDemand (h : Hose) (r : Receiver) : (p.setReceiver h r).windowDemand = p.windowDemand := rfl
@[simp] theorem setReceiver_stages (h : Hose) (r : Receiver) : (p.setReceiver h r).stages = p.stages := rfl
@[simp] theorem setReceiver_band (h : Hose) (r : Receiver) : (p.setReceiver h r).band = p.band := rfl
@[simp] theorem setReceiver_candidate (h : Hose) (r : Receiver) : (p.setReceiver h r).candidate = p.candidate := rfl
@[simp] theorem setReceiver_grants (h : Hose) (r : Receiver) : (p.setReceiver h r).grants = p.grants := rfl
@[simp] theorem setReceiver_armT (h : Hose) (r : Receiver) : (p.setReceiver h r).armT = p.armT := rfl
@[simp] theorem setReceiver_keepT (h : Hose) (r : Receiver) : (p.setReceiver h r).keepT = p.keepT := rfl
@[simp] theorem setReceiver_reports (h : Hose) (r : Receiver) : (p.setReceiver h r).reports = p.reports := rfl
@[simp] theorem setReceiver_measured (h : Hose) (r : Receiver) : (p.setReceiver h r).measured = p.measured := rfl
@[simp] theorem setReceiver_stopT (h : Hose) (r : Receiver) : (p.setReceiver h r).stopT = p.stopT := rfl
@[simp] theorem setReceiver_classSettle (h : Hose) (r : Receiver) : (p.setReceiver h r).classSettle = p.classSettle := rfl
@[simp] theorem setReceiver_classStep (h : Hose) (r : Receiver) : (p.setReceiver h r).classStep = p.classStep := rfl
@[simp] theorem setReceiver_sessions (h : Hose) (r : Receiver) : (p.setReceiver h r).sessions = p.sessions := rfl
@[simp] theorem setReceiver_disps (h : Hose) (r : Receiver) : (p.setReceiver h r).disps = p.disps := rfl
@[simp] theorem setReceiver_receivers (h : Hose) (r : Receiver) : (p.setReceiver h r).receivers = p.receivers.set h r := rfl
@[simp] theorem setReceiver_notices (h : Hose) (r : Receiver) : (p.setReceiver h r).notices = p.notices := rfl
@[simp] theorem setReceiver_lost (h : Hose) (r : Receiver) : (p.setReceiver h r).lost = p.lost := rfl
@[simp] theorem setReceiver_renewDue (h : Hose) (r : Receiver) : (p.setReceiver h r).renewDue = p.renewDue := rfl

@[simp] theorem modSession_mode (h : Hose) (f : Session → Session) : (modSession h f p).mode = p.mode := rfl
@[simp] theorem modSession_closeKind (h : Hose) (f : Session → Session) : (modSession h f p).closeKind = p.closeKind := rfl
@[simp] theorem modSession_quiet (h : Hose) (f : Session → Session) : (modSession h f p).quiet = p.quiet := rfl
@[simp] theorem modSession_shutdownGiven (h : Hose) (f : Session → Session) : (modSession h f p).shutdownGiven = p.shutdownGiven := rfl
@[simp] theorem modSession_hostHold (h : Hose) (f : Session → Session) : (modSession h f p).hostHold = p.hostHold := rfl
@[simp] theorem modSession_hostTrip (h : Hose) (f : Session → Session) : (modSession h f p).hostTrip = p.hostTrip := rfl
@[simp] theorem modSession_hold (h : Hose) (f : Session → Session) : (modSession h f p).hold = p.hold := rfl
@[simp] theorem modSession_trip (h : Hose) (f : Session → Session) : (modSession h f p).trip = p.trip := rfl
@[simp] theorem modSession_cfg (h : Hose) (f : Session → Session) : (modSession h f p).cfg = p.cfg := rfl
@[simp] theorem modSession_grade (h : Hose) (f : Session → Session) : (modSession h f p).grade = p.grade := rfl
@[simp] theorem modSession_derate (h : Hose) (f : Session → Session) : (modSession h f p).derate = p.derate := rfl
@[simp] theorem modSession_outs (h : Hose) (f : Session → Session) : (modSession h f p).outs = p.outs := rfl
@[simp] theorem modSession_switches (h : Hose) (f : Session → Session) : (modSession h f p).switches = p.switches := rfl
@[simp] theorem modSession_analogs (h : Hose) (f : Session → Session) : (modSession h f p).analogs = p.analogs := rfl
@[simp] theorem modSession_meters (h : Hose) (f : Session → Session) : (modSession h f p).meters = p.meters := rfl
@[simp] theorem modSession_banks (h : Hose) (f : Session → Session) : (modSession h f p).banks = p.banks := rfl
@[simp] theorem modSession_comps (h : Hose) (f : Session → Session) : (modSession h f p).comps = p.comps := rfl
@[simp] theorem modSession_windowDemand (h : Hose) (f : Session → Session) : (modSession h f p).windowDemand = p.windowDemand := rfl
@[simp] theorem modSession_stages (h : Hose) (f : Session → Session) : (modSession h f p).stages = p.stages := rfl
@[simp] theorem modSession_band (h : Hose) (f : Session → Session) : (modSession h f p).band = p.band := rfl
@[simp] theorem modSession_candidate (h : Hose) (f : Session → Session) : (modSession h f p).candidate = p.candidate := rfl
@[simp] theorem modSession_grants (h : Hose) (f : Session → Session) : (modSession h f p).grants = p.grants := rfl
@[simp] theorem modSession_armT (h : Hose) (f : Session → Session) : (modSession h f p).armT = p.armT := rfl
@[simp] theorem modSession_keepT (h : Hose) (f : Session → Session) : (modSession h f p).keepT = p.keepT := rfl
@[simp] theorem modSession_reports (h : Hose) (f : Session → Session) : (modSession h f p).reports = p.reports := rfl
@[simp] theorem modSession_measured (h : Hose) (f : Session → Session) : (modSession h f p).measured = p.measured := rfl
@[simp] theorem modSession_stopT (h : Hose) (f : Session → Session) : (modSession h f p).stopT = p.stopT := rfl
@[simp] theorem modSession_classSettle (h : Hose) (f : Session → Session) : (modSession h f p).classSettle = p.classSettle := rfl
@[simp] theorem modSession_classStep (h : Hose) (f : Session → Session) : (modSession h f p).classStep = p.classStep := rfl
@[simp] theorem modSession_sessions (h : Hose) (f : Session → Session) : (modSession h f p).sessions = p.sessions.set h (f (p.sessions.get h)) := rfl
@[simp] theorem modSession_disps (h : Hose) (f : Session → Session) : (modSession h f p).disps = p.disps := rfl
@[simp] theorem modSession_receivers (h : Hose) (f : Session → Session) : (modSession h f p).receivers = p.receivers := rfl
@[simp] theorem modSession_notices (h : Hose) (f : Session → Session) : (modSession h f p).notices = p.notices := rfl
@[simp] theorem modSession_lost (h : Hose) (f : Session → Session) : (modSession h f p).lost = p.lost := rfl
@[simp] theorem modSession_renewDue (h : Hose) (f : Session → Session) : (modSession h f p).renewDue = p.renewDue := rfl

@[simp] theorem modDisp_mode (d : Disp) (f : DispCtx → DispCtx) : (modDisp d f p).mode = p.mode := rfl
@[simp] theorem modDisp_closeKind (d : Disp) (f : DispCtx → DispCtx) : (modDisp d f p).closeKind = p.closeKind := rfl
@[simp] theorem modDisp_quiet (d : Disp) (f : DispCtx → DispCtx) : (modDisp d f p).quiet = p.quiet := rfl
@[simp] theorem modDisp_shutdownGiven (d : Disp) (f : DispCtx → DispCtx) : (modDisp d f p).shutdownGiven = p.shutdownGiven := rfl
@[simp] theorem modDisp_hostHold (d : Disp) (f : DispCtx → DispCtx) : (modDisp d f p).hostHold = p.hostHold := rfl
@[simp] theorem modDisp_hostTrip (d : Disp) (f : DispCtx → DispCtx) : (modDisp d f p).hostTrip = p.hostTrip := rfl
@[simp] theorem modDisp_hold (d : Disp) (f : DispCtx → DispCtx) : (modDisp d f p).hold = p.hold := rfl
@[simp] theorem modDisp_trip (d : Disp) (f : DispCtx → DispCtx) : (modDisp d f p).trip = p.trip := rfl
@[simp] theorem modDisp_cfg (d : Disp) (f : DispCtx → DispCtx) : (modDisp d f p).cfg = p.cfg := rfl
@[simp] theorem modDisp_grade (d : Disp) (f : DispCtx → DispCtx) : (modDisp d f p).grade = p.grade := rfl
@[simp] theorem modDisp_derate (d : Disp) (f : DispCtx → DispCtx) : (modDisp d f p).derate = p.derate := rfl
@[simp] theorem modDisp_outs (d : Disp) (f : DispCtx → DispCtx) : (modDisp d f p).outs = p.outs := rfl
@[simp] theorem modDisp_switches (d : Disp) (f : DispCtx → DispCtx) : (modDisp d f p).switches = p.switches := rfl
@[simp] theorem modDisp_analogs (d : Disp) (f : DispCtx → DispCtx) : (modDisp d f p).analogs = p.analogs := rfl
@[simp] theorem modDisp_meters (d : Disp) (f : DispCtx → DispCtx) : (modDisp d f p).meters = p.meters := rfl
@[simp] theorem modDisp_banks (d : Disp) (f : DispCtx → DispCtx) : (modDisp d f p).banks = p.banks := rfl
@[simp] theorem modDisp_comps (d : Disp) (f : DispCtx → DispCtx) : (modDisp d f p).comps = p.comps := rfl
@[simp] theorem modDisp_windowDemand (d : Disp) (f : DispCtx → DispCtx) : (modDisp d f p).windowDemand = p.windowDemand := rfl
@[simp] theorem modDisp_stages (d : Disp) (f : DispCtx → DispCtx) : (modDisp d f p).stages = p.stages := rfl
@[simp] theorem modDisp_band (d : Disp) (f : DispCtx → DispCtx) : (modDisp d f p).band = p.band := rfl
@[simp] theorem modDisp_candidate (d : Disp) (f : DispCtx → DispCtx) : (modDisp d f p).candidate = p.candidate := rfl
@[simp] theorem modDisp_grants (d : Disp) (f : DispCtx → DispCtx) : (modDisp d f p).grants = p.grants := rfl
@[simp] theorem modDisp_armT (d : Disp) (f : DispCtx → DispCtx) : (modDisp d f p).armT = p.armT := rfl
@[simp] theorem modDisp_keepT (d : Disp) (f : DispCtx → DispCtx) : (modDisp d f p).keepT = p.keepT := rfl
@[simp] theorem modDisp_reports (d : Disp) (f : DispCtx → DispCtx) : (modDisp d f p).reports = p.reports := rfl
@[simp] theorem modDisp_measured (d : Disp) (f : DispCtx → DispCtx) : (modDisp d f p).measured = p.measured := rfl
@[simp] theorem modDisp_stopT (d : Disp) (f : DispCtx → DispCtx) : (modDisp d f p).stopT = p.stopT := rfl
@[simp] theorem modDisp_classSettle (d : Disp) (f : DispCtx → DispCtx) : (modDisp d f p).classSettle = p.classSettle := rfl
@[simp] theorem modDisp_classStep (d : Disp) (f : DispCtx → DispCtx) : (modDisp d f p).classStep = p.classStep := rfl
@[simp] theorem modDisp_sessions (d : Disp) (f : DispCtx → DispCtx) : (modDisp d f p).sessions = p.sessions := rfl
@[simp] theorem modDisp_disps (d : Disp) (f : DispCtx → DispCtx) : (modDisp d f p).disps = p.disps.set d (f (p.disps.get d)) := rfl
@[simp] theorem modDisp_receivers (d : Disp) (f : DispCtx → DispCtx) : (modDisp d f p).receivers = p.receivers := rfl
@[simp] theorem modDisp_notices (d : Disp) (f : DispCtx → DispCtx) : (modDisp d f p).notices = p.notices := rfl
@[simp] theorem modDisp_lost (d : Disp) (f : DispCtx → DispCtx) : (modDisp d f p).lost = p.lost := rfl
@[simp] theorem modDisp_renewDue (d : Disp) (f : DispCtx → DispCtx) : (modDisp d f p).renewDue = p.renewDue := rfl

@[simp] theorem modRamp_mode (d : Disp) (f : RampRec → RampRec) : (modRamp d f p).mode = p.mode := rfl
@[simp] theorem modRamp_closeKind (d : Disp) (f : RampRec → RampRec) : (modRamp d f p).closeKind = p.closeKind := rfl
@[simp] theorem modRamp_quiet (d : Disp) (f : RampRec → RampRec) : (modRamp d f p).quiet = p.quiet := rfl
@[simp] theorem modRamp_shutdownGiven (d : Disp) (f : RampRec → RampRec) : (modRamp d f p).shutdownGiven = p.shutdownGiven := rfl
@[simp] theorem modRamp_hostHold (d : Disp) (f : RampRec → RampRec) : (modRamp d f p).hostHold = p.hostHold := rfl
@[simp] theorem modRamp_hostTrip (d : Disp) (f : RampRec → RampRec) : (modRamp d f p).hostTrip = p.hostTrip := rfl
@[simp] theorem modRamp_hold (d : Disp) (f : RampRec → RampRec) : (modRamp d f p).hold = p.hold := rfl
@[simp] theorem modRamp_trip (d : Disp) (f : RampRec → RampRec) : (modRamp d f p).trip = p.trip := rfl
@[simp] theorem modRamp_cfg (d : Disp) (f : RampRec → RampRec) : (modRamp d f p).cfg = p.cfg := rfl
@[simp] theorem modRamp_grade (d : Disp) (f : RampRec → RampRec) : (modRamp d f p).grade = p.grade := rfl
@[simp] theorem modRamp_derate (d : Disp) (f : RampRec → RampRec) : (modRamp d f p).derate = p.derate := rfl
@[simp] theorem modRamp_outs (d : Disp) (f : RampRec → RampRec) : (modRamp d f p).outs = p.outs := rfl
@[simp] theorem modRamp_switches (d : Disp) (f : RampRec → RampRec) : (modRamp d f p).switches = p.switches := rfl
@[simp] theorem modRamp_analogs (d : Disp) (f : RampRec → RampRec) : (modRamp d f p).analogs = p.analogs := rfl
@[simp] theorem modRamp_meters (d : Disp) (f : RampRec → RampRec) : (modRamp d f p).meters = p.meters := rfl
@[simp] theorem modRamp_banks (d : Disp) (f : RampRec → RampRec) : (modRamp d f p).banks = p.banks := rfl
@[simp] theorem modRamp_comps (d : Disp) (f : RampRec → RampRec) : (modRamp d f p).comps = p.comps := rfl
@[simp] theorem modRamp_windowDemand (d : Disp) (f : RampRec → RampRec) : (modRamp d f p).windowDemand = p.windowDemand := rfl
@[simp] theorem modRamp_stages (d : Disp) (f : RampRec → RampRec) : (modRamp d f p).stages = p.stages := rfl
@[simp] theorem modRamp_band (d : Disp) (f : RampRec → RampRec) : (modRamp d f p).band = p.band := rfl
@[simp] theorem modRamp_candidate (d : Disp) (f : RampRec → RampRec) : (modRamp d f p).candidate = p.candidate := rfl
@[simp] theorem modRamp_grants (d : Disp) (f : RampRec → RampRec) : (modRamp d f p).grants = p.grants := rfl
@[simp] theorem modRamp_armT (d : Disp) (f : RampRec → RampRec) : (modRamp d f p).armT = p.armT := rfl
@[simp] theorem modRamp_keepT (d : Disp) (f : RampRec → RampRec) : (modRamp d f p).keepT = p.keepT := rfl
@[simp] theorem modRamp_reports (d : Disp) (f : RampRec → RampRec) : (modRamp d f p).reports = p.reports := rfl
@[simp] theorem modRamp_measured (d : Disp) (f : RampRec → RampRec) : (modRamp d f p).measured = p.measured := rfl
@[simp] theorem modRamp_stopT (d : Disp) (f : RampRec → RampRec) : (modRamp d f p).stopT = p.stopT := rfl
@[simp] theorem modRamp_classSettle (d : Disp) (f : RampRec → RampRec) : (modRamp d f p).classSettle = p.classSettle := rfl
@[simp] theorem modRamp_classStep (d : Disp) (f : RampRec → RampRec) : (modRamp d f p).classStep = p.classStep := rfl
@[simp] theorem modRamp_sessions (d : Disp) (f : RampRec → RampRec) : (modRamp d f p).sessions = p.sessions := rfl
@[simp] theorem modRamp_receivers (d : Disp) (f : RampRec → RampRec) : (modRamp d f p).receivers = p.receivers := rfl
@[simp] theorem modRamp_notices (d : Disp) (f : RampRec → RampRec) : (modRamp d f p).notices = p.notices := rfl
@[simp] theorem modRamp_lost (d : Disp) (f : RampRec → RampRec) : (modRamp d f p).lost = p.lost := rfl
@[simp] theorem modRamp_renewDue (d : Disp) (f : RampRec → RampRec) : (modRamp d f p).renewDue = p.renewDue := rfl

@[simp] theorem putRamp_mode (d : Disp) (r : RampRec) : (putRamp d r p).mode = p.mode := rfl
@[simp] theorem putRamp_closeKind (d : Disp) (r : RampRec) : (putRamp d r p).closeKind = p.closeKind := rfl
@[simp] theorem putRamp_quiet (d : Disp) (r : RampRec) : (putRamp d r p).quiet = p.quiet := rfl
@[simp] theorem putRamp_shutdownGiven (d : Disp) (r : RampRec) : (putRamp d r p).shutdownGiven = p.shutdownGiven := rfl
@[simp] theorem putRamp_hostHold (d : Disp) (r : RampRec) : (putRamp d r p).hostHold = p.hostHold := rfl
@[simp] theorem putRamp_hostTrip (d : Disp) (r : RampRec) : (putRamp d r p).hostTrip = p.hostTrip := rfl
@[simp] theorem putRamp_hold (d : Disp) (r : RampRec) : (putRamp d r p).hold = p.hold := rfl
@[simp] theorem putRamp_trip (d : Disp) (r : RampRec) : (putRamp d r p).trip = p.trip := rfl
@[simp] theorem putRamp_cfg (d : Disp) (r : RampRec) : (putRamp d r p).cfg = p.cfg := rfl
@[simp] theorem putRamp_grade (d : Disp) (r : RampRec) : (putRamp d r p).grade = p.grade := rfl
@[simp] theorem putRamp_derate (d : Disp) (r : RampRec) : (putRamp d r p).derate = p.derate := rfl
@[simp] theorem putRamp_outs (d : Disp) (r : RampRec) : (putRamp d r p).outs = p.outs := rfl
@[simp] theorem putRamp_switches (d : Disp) (r : RampRec) : (putRamp d r p).switches = p.switches := rfl
@[simp] theorem putRamp_analogs (d : Disp) (r : RampRec) : (putRamp d r p).analogs = p.analogs := rfl
@[simp] theorem putRamp_meters (d : Disp) (r : RampRec) : (putRamp d r p).meters = p.meters := rfl
@[simp] theorem putRamp_banks (d : Disp) (r : RampRec) : (putRamp d r p).banks = p.banks := rfl
@[simp] theorem putRamp_comps (d : Disp) (r : RampRec) : (putRamp d r p).comps = p.comps := rfl
@[simp] theorem putRamp_windowDemand (d : Disp) (r : RampRec) : (putRamp d r p).windowDemand = p.windowDemand := rfl
@[simp] theorem putRamp_stages (d : Disp) (r : RampRec) : (putRamp d r p).stages = p.stages := rfl
@[simp] theorem putRamp_band (d : Disp) (r : RampRec) : (putRamp d r p).band = p.band := rfl
@[simp] theorem putRamp_candidate (d : Disp) (r : RampRec) : (putRamp d r p).candidate = p.candidate := rfl
@[simp] theorem putRamp_grants (d : Disp) (r : RampRec) : (putRamp d r p).grants = p.grants := rfl
@[simp] theorem putRamp_armT (d : Disp) (r : RampRec) : (putRamp d r p).armT = p.armT := rfl
@[simp] theorem putRamp_keepT (d : Disp) (r : RampRec) : (putRamp d r p).keepT = p.keepT := rfl
@[simp] theorem putRamp_reports (d : Disp) (r : RampRec) : (putRamp d r p).reports = p.reports := rfl
@[simp] theorem putRamp_measured (d : Disp) (r : RampRec) : (putRamp d r p).measured = p.measured := rfl
@[simp] theorem putRamp_stopT (d : Disp) (r : RampRec) : (putRamp d r p).stopT = p.stopT := rfl
@[simp] theorem putRamp_classSettle (d : Disp) (r : RampRec) : (putRamp d r p).classSettle = p.classSettle := rfl
@[simp] theorem putRamp_classStep (d : Disp) (r : RampRec) : (putRamp d r p).classStep = p.classStep := rfl
@[simp] theorem putRamp_sessions (d : Disp) (r : RampRec) : (putRamp d r p).sessions = p.sessions := rfl
@[simp] theorem putRamp_receivers (d : Disp) (r : RampRec) : (putRamp d r p).receivers = p.receivers := rfl
@[simp] theorem putRamp_notices (d : Disp) (r : RampRec) : (putRamp d r p).notices = p.notices := rfl
@[simp] theorem putRamp_lost (d : Disp) (r : RampRec) : (putRamp d r p).lost = p.lost := rfl
@[simp] theorem putRamp_renewDue (d : Disp) (r : RampRec) : (putRamp d r p).renewDue = p.renewDue := rfl

@[simp] theorem modOut_mode (o : OutPoint) (f : OutRec → OutRec) : (modOut o f p).mode = p.mode := rfl
@[simp] theorem modOut_closeKind (o : OutPoint) (f : OutRec → OutRec) : (modOut o f p).closeKind = p.closeKind := rfl
@[simp] theorem modOut_quiet (o : OutPoint) (f : OutRec → OutRec) : (modOut o f p).quiet = p.quiet := rfl
@[simp] theorem modOut_shutdownGiven (o : OutPoint) (f : OutRec → OutRec) : (modOut o f p).shutdownGiven = p.shutdownGiven := rfl
@[simp] theorem modOut_hostHold (o : OutPoint) (f : OutRec → OutRec) : (modOut o f p).hostHold = p.hostHold := rfl
@[simp] theorem modOut_hostTrip (o : OutPoint) (f : OutRec → OutRec) : (modOut o f p).hostTrip = p.hostTrip := rfl
@[simp] theorem modOut_hold (o : OutPoint) (f : OutRec → OutRec) : (modOut o f p).hold = p.hold := rfl
@[simp] theorem modOut_trip (o : OutPoint) (f : OutRec → OutRec) : (modOut o f p).trip = p.trip := rfl
@[simp] theorem modOut_cfg (o : OutPoint) (f : OutRec → OutRec) : (modOut o f p).cfg = p.cfg := rfl
@[simp] theorem modOut_grade (o : OutPoint) (f : OutRec → OutRec) : (modOut o f p).grade = p.grade := rfl
@[simp] theorem modOut_derate (o : OutPoint) (f : OutRec → OutRec) : (modOut o f p).derate = p.derate := rfl
@[simp] theorem modOut_outs (o : OutPoint) (f : OutRec → OutRec) : (modOut o f p).outs = p.outs.set o (f (p.outs.get o)) := rfl
@[simp] theorem modOut_switches (o : OutPoint) (f : OutRec → OutRec) : (modOut o f p).switches = p.switches := rfl
@[simp] theorem modOut_analogs (o : OutPoint) (f : OutRec → OutRec) : (modOut o f p).analogs = p.analogs := rfl
@[simp] theorem modOut_meters (o : OutPoint) (f : OutRec → OutRec) : (modOut o f p).meters = p.meters := rfl
@[simp] theorem modOut_banks (o : OutPoint) (f : OutRec → OutRec) : (modOut o f p).banks = p.banks := rfl
@[simp] theorem modOut_comps (o : OutPoint) (f : OutRec → OutRec) : (modOut o f p).comps = p.comps := rfl
@[simp] theorem modOut_windowDemand (o : OutPoint) (f : OutRec → OutRec) : (modOut o f p).windowDemand = p.windowDemand := rfl
@[simp] theorem modOut_stages (o : OutPoint) (f : OutRec → OutRec) : (modOut o f p).stages = p.stages := rfl
@[simp] theorem modOut_band (o : OutPoint) (f : OutRec → OutRec) : (modOut o f p).band = p.band := rfl
@[simp] theorem modOut_candidate (o : OutPoint) (f : OutRec → OutRec) : (modOut o f p).candidate = p.candidate := rfl
@[simp] theorem modOut_grants (o : OutPoint) (f : OutRec → OutRec) : (modOut o f p).grants = p.grants := rfl
@[simp] theorem modOut_armT (o : OutPoint) (f : OutRec → OutRec) : (modOut o f p).armT = p.armT := rfl
@[simp] theorem modOut_keepT (o : OutPoint) (f : OutRec → OutRec) : (modOut o f p).keepT = p.keepT := rfl
@[simp] theorem modOut_reports (o : OutPoint) (f : OutRec → OutRec) : (modOut o f p).reports = p.reports := rfl
@[simp] theorem modOut_measured (o : OutPoint) (f : OutRec → OutRec) : (modOut o f p).measured = p.measured := rfl
@[simp] theorem modOut_stopT (o : OutPoint) (f : OutRec → OutRec) : (modOut o f p).stopT = p.stopT := rfl
@[simp] theorem modOut_classSettle (o : OutPoint) (f : OutRec → OutRec) : (modOut o f p).classSettle = p.classSettle := rfl
@[simp] theorem modOut_classStep (o : OutPoint) (f : OutRec → OutRec) : (modOut o f p).classStep = p.classStep := rfl
@[simp] theorem modOut_sessions (o : OutPoint) (f : OutRec → OutRec) : (modOut o f p).sessions = p.sessions := rfl
@[simp] theorem modOut_disps (o : OutPoint) (f : OutRec → OutRec) : (modOut o f p).disps = p.disps := rfl
@[simp] theorem modOut_receivers (o : OutPoint) (f : OutRec → OutRec) : (modOut o f p).receivers = p.receivers := rfl
@[simp] theorem modOut_notices (o : OutPoint) (f : OutRec → OutRec) : (modOut o f p).notices = p.notices := rfl
@[simp] theorem modOut_lost (o : OutPoint) (f : OutRec → OutRec) : (modOut o f p).lost = p.lost := rfl
@[simp] theorem modOut_renewDue (o : OutPoint) (f : OutRec → OutRec) : (modOut o f p).renewDue = p.renewDue := rfl

@[simp] theorem setFunction_mode (o : OutPoint) (v : Option OutVal) : (setFunction o v p).mode = p.mode := rfl
@[simp] theorem setFunction_closeKind (o : OutPoint) (v : Option OutVal) : (setFunction o v p).closeKind = p.closeKind := rfl
@[simp] theorem setFunction_quiet (o : OutPoint) (v : Option OutVal) : (setFunction o v p).quiet = p.quiet := rfl
@[simp] theorem setFunction_shutdownGiven (o : OutPoint) (v : Option OutVal) : (setFunction o v p).shutdownGiven = p.shutdownGiven := rfl
@[simp] theorem setFunction_hostHold (o : OutPoint) (v : Option OutVal) : (setFunction o v p).hostHold = p.hostHold := rfl
@[simp] theorem setFunction_hostTrip (o : OutPoint) (v : Option OutVal) : (setFunction o v p).hostTrip = p.hostTrip := rfl
@[simp] theorem setFunction_hold (o : OutPoint) (v : Option OutVal) : (setFunction o v p).hold = p.hold := rfl
@[simp] theorem setFunction_trip (o : OutPoint) (v : Option OutVal) : (setFunction o v p).trip = p.trip := rfl
@[simp] theorem setFunction_cfg (o : OutPoint) (v : Option OutVal) : (setFunction o v p).cfg = p.cfg := rfl
@[simp] theorem setFunction_grade (o : OutPoint) (v : Option OutVal) : (setFunction o v p).grade = p.grade := rfl
@[simp] theorem setFunction_derate (o : OutPoint) (v : Option OutVal) : (setFunction o v p).derate = p.derate := rfl
@[simp] theorem setFunction_switches (o : OutPoint) (v : Option OutVal) : (setFunction o v p).switches = p.switches := rfl
@[simp] theorem setFunction_analogs (o : OutPoint) (v : Option OutVal) : (setFunction o v p).analogs = p.analogs := rfl
@[simp] theorem setFunction_meters (o : OutPoint) (v : Option OutVal) : (setFunction o v p).meters = p.meters := rfl
@[simp] theorem setFunction_banks (o : OutPoint) (v : Option OutVal) : (setFunction o v p).banks = p.banks := rfl
@[simp] theorem setFunction_comps (o : OutPoint) (v : Option OutVal) : (setFunction o v p).comps = p.comps := rfl
@[simp] theorem setFunction_windowDemand (o : OutPoint) (v : Option OutVal) : (setFunction o v p).windowDemand = p.windowDemand := rfl
@[simp] theorem setFunction_stages (o : OutPoint) (v : Option OutVal) : (setFunction o v p).stages = p.stages := rfl
@[simp] theorem setFunction_band (o : OutPoint) (v : Option OutVal) : (setFunction o v p).band = p.band := rfl
@[simp] theorem setFunction_candidate (o : OutPoint) (v : Option OutVal) : (setFunction o v p).candidate = p.candidate := rfl
@[simp] theorem setFunction_grants (o : OutPoint) (v : Option OutVal) : (setFunction o v p).grants = p.grants := rfl
@[simp] theorem setFunction_armT (o : OutPoint) (v : Option OutVal) : (setFunction o v p).armT = p.armT := rfl
@[simp] theorem setFunction_keepT (o : OutPoint) (v : Option OutVal) : (setFunction o v p).keepT = p.keepT := rfl
@[simp] theorem setFunction_reports (o : OutPoint) (v : Option OutVal) : (setFunction o v p).reports = p.reports := rfl
@[simp] theorem setFunction_measured (o : OutPoint) (v : Option OutVal) : (setFunction o v p).measured = p.measured := rfl
@[simp] theorem setFunction_stopT (o : OutPoint) (v : Option OutVal) : (setFunction o v p).stopT = p.stopT := rfl
@[simp] theorem setFunction_classSettle (o : OutPoint) (v : Option OutVal) : (setFunction o v p).classSettle = p.classSettle := rfl
@[simp] theorem setFunction_classStep (o : OutPoint) (v : Option OutVal) : (setFunction o v p).classStep = p.classStep := rfl
@[simp] theorem setFunction_sessions (o : OutPoint) (v : Option OutVal) : (setFunction o v p).sessions = p.sessions := rfl
@[simp] theorem setFunction_disps (o : OutPoint) (v : Option OutVal) : (setFunction o v p).disps = p.disps := rfl
@[simp] theorem setFunction_receivers (o : OutPoint) (v : Option OutVal) : (setFunction o v p).receivers = p.receivers := rfl
@[simp] theorem setFunction_notices (o : OutPoint) (v : Option OutVal) : (setFunction o v p).notices = p.notices := rfl
@[simp] theorem setFunction_lost (o : OutPoint) (v : Option OutVal) : (setFunction o v p).lost = p.lost := rfl
@[simp] theorem setFunction_renewDue (o : OutPoint) (v : Option OutVal) : (setFunction o v p).renewDue = p.renewDue := rfl

@[simp] theorem setManual_mode (o : OutPoint) (v : Option OutVal) : (setManual o v p).mode = p.mode := rfl
@[simp] theorem setManual_closeKind (o : OutPoint) (v : Option OutVal) : (setManual o v p).closeKind = p.closeKind := rfl
@[simp] theorem setManual_quiet (o : OutPoint) (v : Option OutVal) : (setManual o v p).quiet = p.quiet := rfl
@[simp] theorem setManual_shutdownGiven (o : OutPoint) (v : Option OutVal) : (setManual o v p).shutdownGiven = p.shutdownGiven := rfl
@[simp] theorem setManual_hostHold (o : OutPoint) (v : Option OutVal) : (setManual o v p).hostHold = p.hostHold := rfl
@[simp] theorem setManual_hostTrip (o : OutPoint) (v : Option OutVal) : (setManual o v p).hostTrip = p.hostTrip := rfl
@[simp] theorem setManual_hold (o : OutPoint) (v : Option OutVal) : (setManual o v p).hold = p.hold := rfl
@[simp] theorem setManual_trip (o : OutPoint) (v : Option OutVal) : (setManual o v p).trip = p.trip := rfl
@[simp] theorem setManual_cfg (o : OutPoint) (v : Option OutVal) : (setManual o v p).cfg = p.cfg := rfl
@[simp] theorem setManual_grade (o : OutPoint) (v : Option OutVal) : (setManual o v p).grade = p.grade := rfl
@[simp] theorem setManual_derate (o : OutPoint) (v : Option OutVal) : (setManual o v p).derate = p.derate := rfl
@[simp] theorem setManual_switches (o : OutPoint) (v : Option OutVal) : (setManual o v p).switches = p.switches := rfl
@[simp] theorem setManual_analogs (o : OutPoint) (v : Option OutVal) : (setManual o v p).analogs = p.analogs := rfl
@[simp] theorem setManual_meters (o : OutPoint) (v : Option OutVal) : (setManual o v p).meters = p.meters := rfl
@[simp] theorem setManual_banks (o : OutPoint) (v : Option OutVal) : (setManual o v p).banks = p.banks := rfl
@[simp] theorem setManual_comps (o : OutPoint) (v : Option OutVal) : (setManual o v p).comps = p.comps := rfl
@[simp] theorem setManual_windowDemand (o : OutPoint) (v : Option OutVal) : (setManual o v p).windowDemand = p.windowDemand := rfl
@[simp] theorem setManual_stages (o : OutPoint) (v : Option OutVal) : (setManual o v p).stages = p.stages := rfl
@[simp] theorem setManual_band (o : OutPoint) (v : Option OutVal) : (setManual o v p).band = p.band := rfl
@[simp] theorem setManual_candidate (o : OutPoint) (v : Option OutVal) : (setManual o v p).candidate = p.candidate := rfl
@[simp] theorem setManual_grants (o : OutPoint) (v : Option OutVal) : (setManual o v p).grants = p.grants := rfl
@[simp] theorem setManual_armT (o : OutPoint) (v : Option OutVal) : (setManual o v p).armT = p.armT := rfl
@[simp] theorem setManual_keepT (o : OutPoint) (v : Option OutVal) : (setManual o v p).keepT = p.keepT := rfl
@[simp] theorem setManual_reports (o : OutPoint) (v : Option OutVal) : (setManual o v p).reports = p.reports := rfl
@[simp] theorem setManual_measured (o : OutPoint) (v : Option OutVal) : (setManual o v p).measured = p.measured := rfl
@[simp] theorem setManual_stopT (o : OutPoint) (v : Option OutVal) : (setManual o v p).stopT = p.stopT := rfl
@[simp] theorem setManual_classSettle (o : OutPoint) (v : Option OutVal) : (setManual o v p).classSettle = p.classSettle := rfl
@[simp] theorem setManual_classStep (o : OutPoint) (v : Option OutVal) : (setManual o v p).classStep = p.classStep := rfl
@[simp] theorem setManual_sessions (o : OutPoint) (v : Option OutVal) : (setManual o v p).sessions = p.sessions := rfl
@[simp] theorem setManual_disps (o : OutPoint) (v : Option OutVal) : (setManual o v p).disps = p.disps := rfl
@[simp] theorem setManual_receivers (o : OutPoint) (v : Option OutVal) : (setManual o v p).receivers = p.receivers := rfl
@[simp] theorem setManual_notices (o : OutPoint) (v : Option OutVal) : (setManual o v p).notices = p.notices := rfl
@[simp] theorem setManual_lost (o : OutPoint) (v : Option OutVal) : (setManual o v p).lost = p.lost := rfl
@[simp] theorem setManual_renewDue (o : OutPoint) (v : Option OutVal) : (setManual o v p).renewDue = p.renewDue := rfl

@[simp] theorem placeSafety_mode : (placeSafety p).mode = p.mode := rfl
@[simp] theorem placeSafety_closeKind : (placeSafety p).closeKind = p.closeKind := rfl
@[simp] theorem placeSafety_quiet : (placeSafety p).quiet = p.quiet := rfl
@[simp] theorem placeSafety_shutdownGiven : (placeSafety p).shutdownGiven = p.shutdownGiven := rfl
@[simp] theorem placeSafety_hostHold : (placeSafety p).hostHold = p.hostHold := rfl
@[simp] theorem placeSafety_hostTrip : (placeSafety p).hostTrip = p.hostTrip := rfl
@[simp] theorem placeSafety_hold : (placeSafety p).hold = p.hold := rfl
@[simp] theorem placeSafety_trip : (placeSafety p).trip = p.trip := rfl
@[simp] theorem placeSafety_cfg : (placeSafety p).cfg = p.cfg := rfl
@[simp] theorem placeSafety_grade : (placeSafety p).grade = p.grade := rfl
@[simp] theorem placeSafety_derate : (placeSafety p).derate = p.derate := rfl
@[simp] theorem placeSafety_switches : (placeSafety p).switches = p.switches := rfl
@[simp] theorem placeSafety_analogs : (placeSafety p).analogs = p.analogs := rfl
@[simp] theorem placeSafety_meters : (placeSafety p).meters = p.meters := rfl
@[simp] theorem placeSafety_banks : (placeSafety p).banks = p.banks := rfl
@[simp] theorem placeSafety_comps : (placeSafety p).comps = p.comps := rfl
@[simp] theorem placeSafety_windowDemand : (placeSafety p).windowDemand = p.windowDemand := rfl
@[simp] theorem placeSafety_stages : (placeSafety p).stages = p.stages := rfl
@[simp] theorem placeSafety_band : (placeSafety p).band = p.band := rfl
@[simp] theorem placeSafety_candidate : (placeSafety p).candidate = p.candidate := rfl
@[simp] theorem placeSafety_grants : (placeSafety p).grants = p.grants := rfl
@[simp] theorem placeSafety_armT : (placeSafety p).armT = p.armT := rfl
@[simp] theorem placeSafety_keepT : (placeSafety p).keepT = p.keepT := rfl
@[simp] theorem placeSafety_reports : (placeSafety p).reports = p.reports := rfl
@[simp] theorem placeSafety_measured : (placeSafety p).measured = p.measured := rfl
@[simp] theorem placeSafety_stopT : (placeSafety p).stopT = p.stopT := rfl
@[simp] theorem placeSafety_classSettle : (placeSafety p).classSettle = p.classSettle := rfl
@[simp] theorem placeSafety_classStep : (placeSafety p).classStep = p.classStep := rfl
@[simp] theorem placeSafety_sessions : (placeSafety p).sessions = p.sessions := rfl
@[simp] theorem placeSafety_disps : (placeSafety p).disps = p.disps := rfl
@[simp] theorem placeSafety_receivers : (placeSafety p).receivers = p.receivers := rfl
@[simp] theorem placeSafety_notices : (placeSafety p).notices = p.notices := rfl
@[simp] theorem placeSafety_lost : (placeSafety p).lost = p.lost := rfl
@[simp] theorem placeSafety_renewDue : (placeSafety p).renewDue = p.renewDue := rfl

@[simp] theorem removeSafety_mode : (removeSafety p).mode = p.mode := rfl
@[simp] theorem removeSafety_closeKind : (removeSafety p).closeKind = p.closeKind := rfl
@[simp] theorem removeSafety_quiet : (removeSafety p).quiet = p.quiet := rfl
@[simp] theorem removeSafety_shutdownGiven : (removeSafety p).shutdownGiven = p.shutdownGiven := rfl
@[simp] theorem removeSafety_hostHold : (removeSafety p).hostHold = p.hostHold := rfl
@[simp] theorem removeSafety_hostTrip : (removeSafety p).hostTrip = p.hostTrip := rfl
@[simp] theorem removeSafety_hold : (removeSafety p).hold = p.hold := rfl
@[simp] theorem removeSafety_trip : (removeSafety p).trip = p.trip := rfl
@[simp] theorem removeSafety_cfg : (removeSafety p).cfg = p.cfg := rfl
@[simp] theorem removeSafety_grade : (removeSafety p).grade = p.grade := rfl
@[simp] theorem removeSafety_derate : (removeSafety p).derate = p.derate := rfl
@[simp] theorem removeSafety_switches : (removeSafety p).switches = p.switches := rfl
@[simp] theorem removeSafety_analogs : (removeSafety p).analogs = p.analogs := rfl
@[simp] theorem removeSafety_meters : (removeSafety p).meters = p.meters := rfl
@[simp] theorem removeSafety_banks : (removeSafety p).banks = p.banks := rfl
@[simp] theorem removeSafety_comps : (removeSafety p).comps = p.comps := rfl
@[simp] theorem removeSafety_windowDemand : (removeSafety p).windowDemand = p.windowDemand := rfl
@[simp] theorem removeSafety_stages : (removeSafety p).stages = p.stages := rfl
@[simp] theorem removeSafety_band : (removeSafety p).band = p.band := rfl
@[simp] theorem removeSafety_candidate : (removeSafety p).candidate = p.candidate := rfl
@[simp] theorem removeSafety_grants : (removeSafety p).grants = p.grants := rfl
@[simp] theorem removeSafety_armT : (removeSafety p).armT = p.armT := rfl
@[simp] theorem removeSafety_keepT : (removeSafety p).keepT = p.keepT := rfl
@[simp] theorem removeSafety_reports : (removeSafety p).reports = p.reports := rfl
@[simp] theorem removeSafety_measured : (removeSafety p).measured = p.measured := rfl
@[simp] theorem removeSafety_stopT : (removeSafety p).stopT = p.stopT := rfl
@[simp] theorem removeSafety_classSettle : (removeSafety p).classSettle = p.classSettle := rfl
@[simp] theorem removeSafety_classStep : (removeSafety p).classStep = p.classStep := rfl
@[simp] theorem removeSafety_sessions : (removeSafety p).sessions = p.sessions := rfl
@[simp] theorem removeSafety_disps : (removeSafety p).disps = p.disps := rfl
@[simp] theorem removeSafety_receivers : (removeSafety p).receivers = p.receivers := rfl
@[simp] theorem removeSafety_notices : (removeSafety p).notices = p.notices := rfl
@[simp] theorem removeSafety_lost : (removeSafety p).lost = p.lost := rfl
@[simp] theorem removeSafety_renewDue : (removeSafety p).renewDue = p.renewDue := rfl

@[simp] theorem removeManual_mode : (removeManual p).mode = p.mode := rfl
@[simp] theorem removeManual_closeKind : (removeManual p).closeKind = p.closeKind := rfl
@[simp] theorem removeManual_quiet : (removeManual p).quiet = p.quiet := rfl
@[simp] theorem removeManual_shutdownGiven : (removeManual p).shutdownGiven = p.shutdownGiven := rfl
@[simp] theorem removeManual_hostHold : (removeManual p).hostHold = p.hostHold := rfl
@[simp] theorem removeManual_hostTrip : (removeManual p).hostTrip = p.hostTrip := rfl
@[simp] theorem removeManual_hold : (removeManual p).hold = p.hold := rfl
@[simp] theorem removeManual_trip : (removeManual p).trip = p.trip := rfl
@[simp] theorem removeManual_cfg : (removeManual p).cfg = p.cfg := rfl
@[simp] theorem removeManual_grade : (removeManual p).grade = p.grade := rfl
@[simp] theorem removeManual_derate : (removeManual p).derate = p.derate := rfl
@[simp] theorem removeManual_switches : (removeManual p).switches = p.switches := rfl
@[simp] theorem removeManual_analogs : (removeManual p).analogs = p.analogs := rfl
@[simp] theorem removeManual_meters : (removeManual p).meters = p.meters := rfl
@[simp] theorem removeManual_banks : (removeManual p).banks = p.banks := rfl
@[simp] theorem removeManual_comps : (removeManual p).comps = p.comps := rfl
@[simp] theorem removeManual_windowDemand : (removeManual p).windowDemand = p.windowDemand := rfl
@[simp] theorem removeManual_stages : (removeManual p).stages = p.stages := rfl
@[simp] theorem removeManual_band : (removeManual p).band = p.band := rfl
@[simp] theorem removeManual_candidate : (removeManual p).candidate = p.candidate := rfl
@[simp] theorem removeManual_grants : (removeManual p).grants = p.grants := rfl
@[simp] theorem removeManual_armT : (removeManual p).armT = p.armT := rfl
@[simp] theorem removeManual_keepT : (removeManual p).keepT = p.keepT := rfl
@[simp] theorem removeManual_reports : (removeManual p).reports = p.reports := rfl
@[simp] theorem removeManual_measured : (removeManual p).measured = p.measured := rfl
@[simp] theorem removeManual_stopT : (removeManual p).stopT = p.stopT := rfl
@[simp] theorem removeManual_classSettle : (removeManual p).classSettle = p.classSettle := rfl
@[simp] theorem removeManual_classStep : (removeManual p).classStep = p.classStep := rfl
@[simp] theorem removeManual_sessions : (removeManual p).sessions = p.sessions := rfl
@[simp] theorem removeManual_disps : (removeManual p).disps = p.disps := rfl
@[simp] theorem removeManual_receivers : (removeManual p).receivers = p.receivers := rfl
@[simp] theorem removeManual_notices : (removeManual p).notices = p.notices := rfl
@[simp] theorem removeManual_lost : (removeManual p).lost = p.lost := rfl
@[simp] theorem removeManual_renewDue : (removeManual p).renewDue = p.renewDue := rfl

@[simp] theorem retestOutputs_mode : (retestOutputs p).mode = p.mode := rfl
@[simp] theorem retestOutputs_closeKind : (retestOutputs p).closeKind = p.closeKind := rfl
@[simp] theorem retestOutputs_quiet : (retestOutputs p).quiet = p.quiet := rfl
@[simp] theorem retestOutputs_shutdownGiven : (retestOutputs p).shutdownGiven = p.shutdownGiven := rfl
@[simp] theorem retestOutputs_hostHold : (retestOutputs p).hostHold = p.hostHold := rfl
@[simp] theorem retestOutputs_hostTrip : (retestOutputs p).hostTrip = p.hostTrip := rfl
@[simp] theorem retestOutputs_hold : (retestOutputs p).hold = p.hold := rfl
@[simp] theorem retestOutputs_trip : (retestOutputs p).trip = p.trip := rfl
@[simp] theorem retestOutputs_cfg : (retestOutputs p).cfg = p.cfg := rfl
@[simp] theorem retestOutputs_grade : (retestOutputs p).grade = p.grade := rfl
@[simp] theorem retestOutputs_derate : (retestOutputs p).derate = p.derate := rfl
@[simp] theorem retestOutputs_switches : (retestOutputs p).switches = p.switches := rfl
@[simp] theorem retestOutputs_analogs : (retestOutputs p).analogs = p.analogs := rfl
@[simp] theorem retestOutputs_meters : (retestOutputs p).meters = p.meters := rfl
@[simp] theorem retestOutputs_banks : (retestOutputs p).banks = p.banks := rfl
@[simp] theorem retestOutputs_comps : (retestOutputs p).comps = p.comps := rfl
@[simp] theorem retestOutputs_windowDemand : (retestOutputs p).windowDemand = p.windowDemand := rfl
@[simp] theorem retestOutputs_stages : (retestOutputs p).stages = p.stages := rfl
@[simp] theorem retestOutputs_band : (retestOutputs p).band = p.band := rfl
@[simp] theorem retestOutputs_candidate : (retestOutputs p).candidate = p.candidate := rfl
@[simp] theorem retestOutputs_grants : (retestOutputs p).grants = p.grants := rfl
@[simp] theorem retestOutputs_armT : (retestOutputs p).armT = p.armT := rfl
@[simp] theorem retestOutputs_keepT : (retestOutputs p).keepT = p.keepT := rfl
@[simp] theorem retestOutputs_reports : (retestOutputs p).reports = p.reports := rfl
@[simp] theorem retestOutputs_measured : (retestOutputs p).measured = p.measured := rfl
@[simp] theorem retestOutputs_stopT : (retestOutputs p).stopT = p.stopT := rfl
@[simp] theorem retestOutputs_classSettle : (retestOutputs p).classSettle = p.classSettle := rfl
@[simp] theorem retestOutputs_classStep : (retestOutputs p).classStep = p.classStep := rfl
@[simp] theorem retestOutputs_sessions : (retestOutputs p).sessions = p.sessions := rfl
@[simp] theorem retestOutputs_disps : (retestOutputs p).disps = p.disps := rfl
@[simp] theorem retestOutputs_receivers : (retestOutputs p).receivers = p.receivers := rfl
@[simp] theorem retestOutputs_notices : (retestOutputs p).notices = p.notices := rfl
@[simp] theorem retestOutputs_lost : (retestOutputs p).lost = p.lost := rfl
@[simp] theorem retestOutputs_renewDue : (retestOutputs p).renewDue = p.renewDue := rfl

@[simp] theorem evaluate_mode : (evaluate p).mode = p.mode := rfl
@[simp] theorem evaluate_closeKind : (evaluate p).closeKind = p.closeKind := rfl
@[simp] theorem evaluate_quiet : (evaluate p).quiet = p.quiet := rfl
@[simp] theorem evaluate_shutdownGiven : (evaluate p).shutdownGiven = p.shutdownGiven := rfl
@[simp] theorem evaluate_hostHold : (evaluate p).hostHold = p.hostHold := rfl
@[simp] theorem evaluate_hostTrip : (evaluate p).hostTrip = p.hostTrip := rfl
@[simp] theorem evaluate_hold : (evaluate p).hold = p.hold := rfl
@[simp] theorem evaluate_trip : (evaluate p).trip = p.trip := rfl
@[simp] theorem evaluate_cfg : (evaluate p).cfg = p.cfg := rfl
@[simp] theorem evaluate_grade : (evaluate p).grade = p.grade := rfl
@[simp] theorem evaluate_derate : (evaluate p).derate = p.derate := rfl
@[simp] theorem evaluate_outs : (evaluate p).outs = p.outs := rfl
@[simp] theorem evaluate_switches : (evaluate p).switches = p.switches := rfl
@[simp] theorem evaluate_analogs : (evaluate p).analogs = p.analogs := rfl
@[simp] theorem evaluate_meters : (evaluate p).meters = p.meters := rfl
@[simp] theorem evaluate_banks : (evaluate p).banks = p.banks := rfl
@[simp] theorem evaluate_comps : (evaluate p).comps = p.comps := rfl
@[simp] theorem evaluate_windowDemand : (evaluate p).windowDemand = p.windowDemand := rfl
@[simp] theorem evaluate_stages : (evaluate p).stages = p.stages := rfl
@[simp] theorem evaluate_band : (evaluate p).band = p.band := rfl
@[simp] theorem evaluate_candidate : (evaluate p).candidate = p.candidate := rfl
@[simp] theorem evaluate_grants : (evaluate p).grants = walk p.capacity p.grants := rfl
@[simp] theorem evaluate_armT : (evaluate p).armT = p.armT := rfl
@[simp] theorem evaluate_keepT : (evaluate p).keepT = p.keepT := rfl
@[simp] theorem evaluate_reports : (evaluate p).reports = p.reports := rfl
@[simp] theorem evaluate_measured : (evaluate p).measured = p.measured := rfl
@[simp] theorem evaluate_stopT : (evaluate p).stopT = p.stopT := rfl
@[simp] theorem evaluate_classSettle : (evaluate p).classSettle = p.classSettle := rfl
@[simp] theorem evaluate_classStep : (evaluate p).classStep = p.classStep := rfl
@[simp] theorem evaluate_sessions : (evaluate p).sessions = p.sessions := rfl
@[simp] theorem evaluate_disps : (evaluate p).disps = p.disps := rfl
@[simp] theorem evaluate_receivers : (evaluate p).receivers = p.receivers := rfl
@[simp] theorem evaluate_notices : (evaluate p).notices = p.notices := rfl
@[simp] theorem evaluate_lost : (evaluate p).lost = p.lost := rfl
@[simp] theorem evaluate_renewDue : (evaluate p).renewDue = p.renewDue := rfl

@[simp] theorem onPlant_plant (f : Plant → Plant) : (s.onPlant f).plant = f s.plant := rfl
@[simp] theorem onPlant_office (f : Plant → Plant) : (s.onPlant f).office = s.office := rfl
@[simp] theorem onPlant_pending (f : Plant → Plant) : (s.onPlant f).pending = s.pending := rfl
@[simp] theorem onOffice_plant (f : Office → Office) : (s.onOffice f).plant = s.plant := rfl
@[simp] theorem onOffice_office (f : Office → Office) : (s.onOffice f).office = f s.office := rfl
@[simp] theorem onOffice_pending (f : Office → Office) : (s.onOffice f).pending = s.pending := rfl

end

/-! ## Notices: only the notice queue and the lost flag change -/

section
variable (n : Notice) (p : Plant)

@[simp] theorem notify_mode : (notify n p).mode = p.mode := by unfold notify; split <;> rfl
@[simp] theorem notify_closeKind : (notify n p).closeKind = p.closeKind := by unfold notify; split <;> rfl
@[simp] theorem notify_quiet : (notify n p).quiet = p.quiet := by unfold notify; split <;> rfl
@[simp] theorem notify_shutdownGiven : (notify n p).shutdownGiven = p.shutdownGiven := by unfold notify; split <;> rfl
@[simp] theorem notify_hostHold : (notify n p).hostHold = p.hostHold := by unfold notify; split <;> rfl
@[simp] theorem notify_hostTrip : (notify n p).hostTrip = p.hostTrip := by unfold notify; split <;> rfl
@[simp] theorem notify_hold : (notify n p).hold = p.hold := by unfold notify; split <;> rfl
@[simp] theorem notify_trip : (notify n p).trip = p.trip := by unfold notify; split <;> rfl
@[simp] theorem notify_cfg : (notify n p).cfg = p.cfg := by unfold notify; split <;> rfl
@[simp] theorem notify_grade : (notify n p).grade = p.grade := by unfold notify; split <;> rfl
@[simp] theorem notify_derate : (notify n p).derate = p.derate := by unfold notify; split <;> rfl
@[simp] theorem notify_outs : (notify n p).outs = p.outs := by unfold notify; split <;> rfl
@[simp] theorem notify_switches : (notify n p).switches = p.switches := by unfold notify; split <;> rfl
@[simp] theorem notify_analogs : (notify n p).analogs = p.analogs := by unfold notify; split <;> rfl
@[simp] theorem notify_meters : (notify n p).meters = p.meters := by unfold notify; split <;> rfl
@[simp] theorem notify_banks : (notify n p).banks = p.banks := by unfold notify; split <;> rfl
@[simp] theorem notify_comps : (notify n p).comps = p.comps := by unfold notify; split <;> rfl
@[simp] theorem notify_windowDemand : (notify n p).windowDemand = p.windowDemand := by unfold notify; split <;> rfl
@[simp] theorem notify_stages : (notify n p).stages = p.stages := by unfold notify; split <;> rfl
@[simp] theorem notify_band : (notify n p).band = p.band := by unfold notify; split <;> rfl
@[simp] theorem notify_candidate : (notify n p).candidate = p.candidate := by unfold notify; split <;> rfl
@[simp] theorem notify_grants : (notify n p).grants = p.grants := by unfold notify; split <;> rfl
@[simp] theorem notify_armT : (notify n p).armT = p.armT := by unfold notify; split <;> rfl
@[simp] theorem notify_keepT : (notify n p).keepT = p.keepT := by unfold notify; split <;> rfl
@[simp] theorem notify_reports : (notify n p).reports = p.reports := by unfold notify; split <;> rfl
@[simp] theorem notify_measured : (notify n p).measured = p.measured := by unfold notify; split <;> rfl
@[simp] theorem notify_stopT : (notify n p).stopT = p.stopT := by unfold notify; split <;> rfl
@[simp] theorem notify_classSettle : (notify n p).classSettle = p.classSettle := by unfold notify; split <;> rfl
@[simp] theorem notify_classStep : (notify n p).classStep = p.classStep := by unfold notify; split <;> rfl
@[simp] theorem notify_sessions : (notify n p).sessions = p.sessions := by unfold notify; split <;> rfl
@[simp] theorem notify_disps : (notify n p).disps = p.disps := by unfold notify; split <;> rfl
@[simp] theorem notify_receivers : (notify n p).receivers = p.receivers := by unfold notify; split <;> rfl
@[simp] theorem notify_renewDue : (notify n p).renewDue = p.renewDue := by unfold notify; split <;> rfl

end

end Sys2Proof.Machine
end

