-- ==== Sys2Proof/Laws/Tables.lean ====
section
/-! SUPPORT. Reading back what was written in the tables with one entry for each unit, and in the tables of points. -/

namespace Sys2Proof

@[simp] theorem PerDisp.get_set_self (t : PerDisp α) (i : Disp) (x : α) : (t.set i x).get i = x := by cases i <;> rfl

theorem PerDisp.get_set_ne (t : PerDisp α) {i j : Disp} (x : α) (h : j ≠ i) : (t.set i x).get j = t.get j := by
  cases i <;> cases j <;> first | rfl | exact absurd rfl h

theorem PerDisp.get_set (t : PerDisp α) (i j : Disp) (x : α) : (t.set i x).get j = if j = i then x else t.get j := by
  by_cases h : j = i
  · subst h; simp
  · simp [h, PerDisp.get_set_ne]

@[simp] theorem PerDisp.get_make (f : Disp → α) (i : Disp) : (PerDisp.make f).get i = f i := by cases i <;> rfl

@[simp] theorem PerDisp.get_mapId (t : PerDisp α) (f : Disp → α → β) (i : Disp) : (t.mapId f).get i = f i (t.get i) := by
  cases i <;> rfl

theorem PerDisp.ext_get (t u : PerDisp α) (h : ∀ i, t.get i = u.get i) : t = u := by
  cases t; cases u
  have e0 := h .d1; have e1 := h .d2; have e2 := h .d3; have e3 := h .d4
  simp only [PerDisp.get] at e0 e1 e2 e3
  subst e0 e1 e2 e3; rfl

@[simp] theorem PerHose.get_set_self (t : PerHose α) (i : Hose) (x : α) : (t.set i x).get i = x := by cases i <;> rfl

theorem PerHose.get_set_ne (t : PerHose α) {i j : Hose} (x : α) (h : j ≠ i) : (t.set i x).get j = t.get j := by
  cases i <;> cases j <;> first | rfl | exact absurd rfl h

theorem PerHose.get_set (t : PerHose α) (i j : Hose) (x : α) : (t.set i x).get j = if j = i then x else t.get j := by
  by_cases h : j = i
  · subst h; simp
  · simp [h, PerHose.get_set_ne]

@[simp] theorem PerHose.get_make (f : Hose → α) (i : Hose) : (PerHose.make f).get i = f i := by cases i <;> rfl

@[simp] theorem PerHose.get_mapId (t : PerHose α) (f : Hose → α → β) (i : Hose) : (t.mapId f).get i = f i (t.get i) := by
  cases i <;> rfl

theorem PerHose.ext_get (t u : PerHose α) (h : ∀ i, t.get i = u.get i) : t = u := by
  cases t; cases u
  have e0 := h .h1A; have e1 := h .h1B; have e2 := h .h2A; have e3 := h .h2B; have e4 := h .h3A; have e5 := h .h3B; have e6 := h .h4A; have e7 := h .h4B
  simp only [PerHose.get] at e0 e1 e2 e3 e4 e5 e6 e7
  subst e0 e1 e2 e3 e4 e5 e6 e7; rfl

@[simp] theorem PerBank.get_set_self (t : PerBank α) (i : BankId) (x : α) : (t.set i x).get i = x := by cases i <;> rfl

theorem PerBank.get_set_ne (t : PerBank α) {i j : BankId} (x : α) (h : j ≠ i) : (t.set i x).get j = t.get j := by
  cases i <;> cases j <;> first | rfl | exact absurd rfl h

theorem PerBank.get_set (t : PerBank α) (i j : BankId) (x : α) : (t.set i x).get j = if j = i then x else t.get j := by
  by_cases h : j = i
  · subst h; simp
  · simp [h, PerBank.get_set_ne]

@[simp] theorem PerBank.get_make (f : BankId → α) (i : BankId) : (PerBank.make f).get i = f i := by cases i <;> rfl

@[simp] theorem PerBank.get_mapId (t : PerBank α) (f : BankId → α → β) (i : BankId) : (t.mapId f).get i = f i (t.get i) := by
  cases i <;> rfl

theorem PerBank.ext_get (t u : PerBank α) (h : ∀ i, t.get i = u.get i) : t = u := by
  cases t; cases u
  have e0 := h .b1; have e1 := h .b2; have e2 := h .b3; have e3 := h .b4; have e4 := h .b5; have e5 := h .b6
  simp only [PerBank.get] at e0 e1 e2 e3 e4 e5
  subst e0 e1 e2 e3 e4 e5; rfl

@[simp] theorem PerComp.get_set_self (t : PerComp α) (i : CompId) (x : α) : (t.set i x).get i = x := by cases i <;> rfl

theorem PerComp.get_set_ne (t : PerComp α) {i j : CompId} (x : α) (h : j ≠ i) : (t.set i x).get j = t.get j := by
  cases i <;> cases j <;> first | rfl | exact absurd rfl h

theorem PerComp.get_set (t : PerComp α) (i j : CompId) (x : α) : (t.set i x).get j = if j = i then x else t.get j := by
  by_cases h : j = i
  · subst h; simp
  · simp [h, PerComp.get_set_ne]

@[simp] theorem PerComp.get_make (f : CompId → α) (i : CompId) : (PerComp.make f).get i = f i := by cases i <;> rfl

@[simp] theorem PerComp.get_mapId (t : PerComp α) (f : CompId → α → β) (i : CompId) : (t.mapId f).get i = f i (t.get i) := by
  cases i <;> rfl

theorem PerComp.ext_get (t u : PerComp α) (h : ∀ i, t.get i = u.get i) : t = u := by
  cases t; cases u
  have e0 := h .c1; have e1 := h .c2
  simp only [PerComp.get] at e0 e1
  subst e0 e1; rfl

@[simp] theorem PerStage.get_set_self (t : PerStage α) (i : StageId) (x : α) : (t.set i x).get i = x := by cases i <;> rfl

theorem PerStage.get_set_ne (t : PerStage α) {i j : StageId} (x : α) (h : j ≠ i) : (t.set i x).get j = t.get j := by
  cases i <;> cases j <;> first | rfl | exact absurd rfl h

theorem PerStage.get_set (t : PerStage α) (i j : StageId) (x : α) : (t.set i x).get j = if j = i then x else t.get j := by
  by_cases h : j = i
  · subst h; simp
  · simp [h, PerStage.get_set_ne]

@[simp] theorem PerStage.get_make (f : StageId → α) (i : StageId) : (PerStage.make f).get i = f i := by cases i <;> rfl

@[simp] theorem PerStage.get_mapId (t : PerStage α) (f : StageId → α → β) (i : StageId) : (t.mapId f).get i = f i (t.get i) := by
  cases i <;> rfl

theorem PerStage.ext_get (t u : PerStage α) (h : ∀ i, t.get i = u.get i) : t = u := by
  cases t; cases u
  have e0 := h .s1; have e1 := h .s2; have e2 := h .s3
  simp only [PerStage.get] at e0 e1 e2
  subst e0 e1 e2; rfl

end Sys2Proof

namespace Sys2Proof.Machine

@[simp] theorem Outs.get_set_self (t : Outs) (o : OutPoint) (r : OutRec) : (t.set o r).get o = r := by
  cases o <;> simp [Outs.get, Outs.set]

theorem Outs.get_set_ne (t : Outs) {o u : OutPoint} (r : OutRec) (h : u ≠ o) : (t.set o r).get u = t.get u := by
  cases o <;> cases u <;> simp only [Outs.get, Outs.set]
  case inlet.inlet d k e j =>
    by_cases hd : e = d
    · subst hd
      have hk : j ≠ k := fun hk => h (by rw [hk])
      simp [PerBank.get_set_ne _ _ hk]
    · simp [PerDisp.get_set_ne _ _ hd]
  case discharge.discharge d k e j =>
    by_cases hd : e = d
    · subst hd
      have hk : j ≠ k := fun hk => h (by rw [hk])
      simp [PerBank.get_set_ne _ _ hk]
    · simp [PerComp.get_set_ne _ _ hd]
  all_goals first
    | exact PerDisp.get_set_ne _ _ fun e => h (by rw [e])
    | exact PerHose.get_set_ne _ _ fun e => h (by rw [e])
    | exact PerComp.get_set_ne _ _ fun e => h (by rw [e])
    | exact PerStage.get_set_ne _ _ fun e => h (by rw [e])

theorem Outs.get_set (t : Outs) (o u : OutPoint) (r : OutRec) :
    (t.set o r).get u = if u = o then r else t.get u := by
  by_cases h : u = o
  · subst h; simp
  · simp [h, Outs.get_set_ne]

@[simp] theorem Outs.get_mapId (t : Outs) (f : OutPoint → OutRec → OutRec) (o : OutPoint) :
    (t.mapId f).get o = f o (t.get o) := by
  cases o <;> simp [Outs.get, Outs.mapId]

@[simp] theorem Outs.get_powerOn (o : OutPoint) : Outs.powerOn.get o = OutRec.powerOn (failSafe o) := by
  cases o <;> simp [Outs.get, Outs.powerOn, failSafe]

@[simp] theorem Switches.get_set_self (t : Switches) (x : SwitchPoint) (r : SwitchRec) : (t.set x r).get x = r := by
  cases x <;> simp [Switches.get, Switches.set]

theorem Switches.get_set_ne (t : Switches) {x y : SwitchPoint} (r : SwitchRec) (h : y ≠ x) :
    (t.set x r).get y = t.get y := by
  cases x <;> cases y <;> simp only [Switches.get, Switches.set]
  all_goals first
    | exact PerDisp.get_set_ne _ _ fun e => h (by rw [e])
    | exact PerHose.get_set_ne _ _ fun e => h (by rw [e])
    | exact PerComp.get_set_ne _ _ fun e => h (by rw [e])
    | exact PerStage.get_set_ne _ _ fun e => h (by rw [e])
    | exact absurd rfl h

@[simp] theorem Switches.get_mapId (t : Switches) (f : SwitchPoint → SwitchRec → SwitchRec) (x : SwitchPoint) :
    (t.mapId f).get x = f x (t.get x) := by
  cases x <;> simp [Switches.get, Switches.mapId]

@[simp] theorem Analogs.get_set_self (t : Analogs) (x : AnalogPoint) (r : AnalogRec) : (t.set x r).get x = r := by
  cases x <;> simp [Analogs.get, Analogs.set]

theorem Analogs.get_set_ne (t : Analogs) {x y : AnalogPoint} (r : AnalogRec) (h : y ≠ x) :
    (t.set x r).get y = t.get y := by
  cases x <;> cases y <;> simp only [Analogs.get, Analogs.set]
  all_goals first
    | exact PerDisp.get_set_ne _ _ fun e => h (by rw [e])
    | exact PerHose.get_set_ne _ _ fun e => h (by rw [e])
    | exact PerBank.get_set_ne _ _ fun e => h (by rw [e])
    | exact absurd rfl h

@[simp] theorem Analogs.get_mapRec (t : Analogs) (f : AnalogRec → AnalogRec) (x : AnalogPoint) :
    (t.mapRec f).get x = f (t.get x) := by
  cases x <;> simp [Analogs.get, Analogs.mapRec]

end Sys2Proof.Machine
end

