-- ==== Sys2Proof/Laws/Settled.lean ====
section
/-! SUPPORT. What the settling of an event leaves as it was: one lemma for each operation that takes part in it, and
`settle_settled`, which says it of the whole. -/

namespace Sys2Proof.Machine

variable {p q r : Plant} {s t u : State}

/-! ## The relation -/

theorem Plant.Settled.refl (p : Plant) : p.Settled p := by constructor <;> first | rfl | (intro; rfl)

theorem Plant.Settled.trans (h : p.Settled q) (g : q.Settled r) : p.Settled r where
  hostHold := g.hostHold.trans h.hostHold
  hostTrip := g.hostTrip.trans h.hostTrip
  hold := g.hold.trans h.hold
  trip := g.trip.trans h.trip
  cfg := g.cfg.trans h.cfg
  grade := g.grade.trans h.grade
  derate := g.derate.trans h.derate
  switches := g.switches.trans h.switches
  analogs := g.analogs.trans h.analogs
  meters := g.meters.trans h.meters
  windowDemand := g.windowDemand.trans h.windowDemand
  band := g.band.trans h.band
  candidate := g.candidate.trans h.candidate
  reports := g.reports.trans h.reports
  measured := g.measured.trans h.measured
  receivers := g.receivers.trans h.receivers
  bankPaper k := (g.bankPaper k).trans (h.bankPaper k)
  sessionPaper x := (g.sessionPaper x).trans (h.sessionPaper x)
  depotMode d := (g.depotMode d).trans (h.depotMode d)
  safety o := (g.safety o).trans (h.safety o)
  manual o := (g.manual o).trans (h.manual o)
  observed o := (g.observed o).trans (h.observed o)
  travelLimit o := (g.travelLimit o).trans (h.travelLimit o)
  enabled c := (g.enabled c).trans (h.enabled c)

theorem Office.Settled.refl (o : Office) : o.Settled o := by constructor <;> rfl

theorem Settled.refl (s : State) : Settled s s := ⟨.refl _, .refl _, rfl⟩

theorem Settled.trans (h : Settled s t) (g : Settled t u) : Settled s u where
  plant := h.plant.trans g.plant
  office :=
    { clock := g.office.clock.trans h.office.clock
      clockMs := g.office.clockMs.trans h.office.clockMs
      tariff := g.office.tariff.trans h.office.tariff
      periodId := g.office.periodId.trans h.office.periodId
      creds := g.office.creds.trans h.office.creds
      openTickets := g.office.openTickets.trans h.office.openTickets
      finalised := g.office.finalised.trans h.office.finalised
      nextTicket := g.office.nextTicket.trans h.office.nextTicket
      nextBatch := g.office.nextBatch.trans h.office.nextBatch
      batchTimer := g.office.batchTimer.trans h.office.batchTimer
      batchLimit := g.office.batchLimit.trans h.office.batchLimit
      queue := g.office.queue.trans h.office.queue
      bindings := g.office.bindings.trans h.office.bindings
      framer := g.office.framer.trans h.office.framer
      gapMs := g.office.gapMs.trans h.office.gapMs
      counts := g.office.counts.trans h.office.counts
      line := g.office.line.trans h.office.line }
  pending := g.pending.trans h.pending

theorem Settled.onPlant {f : Plant → Plant} (hf : t.plant.Settled (f t.plant)) (h : Settled s t) :
    Settled s (t.onPlant f) :=
  h.trans ⟨hf, .refl _, rfl⟩

/-! ## One after another

Every lemma below has the same form: what was settled from `p` on is settled from `p` on after one more operation. -/

theorem eachDisp_settled {f : Disp → Plant → Plant} (hf : ∀ d (q : Plant), p.Settled q → p.Settled (f d q))
    (h : p.Settled q) : p.Settled (eachDisp f q) := hf _ _ (hf _ _ (hf _ _ (hf _ _ h)))

theorem eachHose_settled {f : Hose → Plant → Plant} (hf : ∀ x (q : Plant), p.Settled q → p.Settled (f x q))
    (h : p.Settled q) : p.Settled (eachHose f q) :=
  hf _ _ (hf _ _ (hf _ _ (hf _ _ (hf _ _ (hf _ _ (hf _ _ (hf _ _ h)))))))

theorem eachBank_settled {f : BankId → Plant → Plant} (hf : ∀ k (q : Plant), p.Settled q → p.Settled (f k q))
    (h : p.Settled q) : p.Settled (eachBank f q) := hf _ _ (hf _ _ (hf _ _ (hf _ _ (hf _ _ (hf _ _ h)))))

theorem eachComp_settled {f : CompId → Plant → Plant} (hf : ∀ c (q : Plant), p.Settled q → p.Settled (f c q))
    (h : p.Settled q) : p.Settled (eachComp f q) := hf _ _ (hf _ _ h)

/-! ## Writing one record -/

/-- A change of fields that `Settled` does not speak of. -/
theorem free_settled (f : Plant → Plant) (hf : ∀ q, Plant.Settled q (f q)) (h : p.Settled q) : p.Settled (f q) :=
  h.trans (hf q)

theorem setRenew_settled {b : Bool} (h : p.Settled q) : p.Settled { q with renewDue := b } :=
  h.trans (by constructor <;> first | rfl | (intro; rfl))

theorem setKeep_settled {t : PerDisp (Option Nat)} (h : p.Settled q) : p.Settled { q with keepT := t } :=
  h.trans (by constructor <;> first | rfl | (intro; rfl))

theorem setClasses_settled {t u : PerDisp Timer} (h : p.Settled q) :
    p.Settled { q with classSettle := t, classStep := u } :=
  h.trans (by constructor <;> first | rfl | (intro; rfl))

theorem setStop_settled {t : Timer} (h : p.Settled q) : p.Settled { q with stopT := t } :=
  h.trans (by constructor <;> first | rfl | (intro; rfl))

theorem setGrants_settled {rs : List Request} (h : p.Settled q) : p.Settled { q with grants := rs } :=
  h.trans (by constructor <;> first | rfl | (intro; rfl))

theorem setStages_settled {t : PerStage StageRec} (h : p.Settled q) : p.Settled { q with stages := t } :=
  h.trans (by constructor <;> first | rfl | (intro; rfl))

theorem setGiven_settled {b : Bool} (h : p.Settled q) : p.Settled { q with shutdownGiven := b } :=
  h.trans (by constructor <;> first | rfl | (intro; rfl))

theorem setQuiet_settled {t : PerDisp Bool} (h : p.Settled q) : p.Settled { q with quiet := t } :=
  h.trans (by constructor <;> first | rfl | (intro; rfl))

theorem atMode_settled {m : StationMode} {k : Option CloseKind} (h : p.Settled q) : p.Settled (q.atMode m k) :=
  h.trans (by constructor <;> first | rfl | (intro; rfl))

theorem stopIntervals_settled {d : Disp} (h : p.Settled q) : p.Settled (stopIntervals d q) :=
  h.trans (by constructor <;> first | rfl | (intro; rfl))

theorem evaluate_settled (h : p.Settled q) : p.Settled (evaluate q) := setGrants_settled h

theorem notify_settled {n : Notice} (h : p.Settled q) : p.Settled (notify n q) :=
  h.trans (by unfold notify; split <;> constructor <;> first | rfl | (intro; rfl))

theorem notifyAll_settled {ns : List Notice} (h : p.Settled q) : p.Settled (notifyAll ns q) := by
  induction ns generalizing q with
  | nil => exact h
  | cons n ns ih => exact ih (notify_settled h)

theorem setSession_settled {x : Hose} {y : Session} (e : y.paper = (q.sessions.get x).paper) (h : p.Settled q) :
    p.Settled (q.setSession x y) := by
  refine h.trans ?_
  constructor <;> first | rfl | (intro; rfl) | skip
  intro j
  simp only [setSession_sessions, PerHose.get_set]
  split
  · subst_vars; exact e
  · rfl

theorem modSession_settled {x : Hose} {f : Session → Session} (e : ∀ y, (f y).paper = y.paper) (h : p.Settled q) :
    p.Settled (modSession x f q) := setSession_settled (e _) h

theorem modDisp_settled {d : Disp} {f : DispCtx → DispCtx} (e : ∀ x, (f x).depotMode = x.depotMode)
    (h : p.Settled q) : p.Settled (modDisp d f q) := by
  refine h.trans ?_
  constructor <;> first | rfl | (intro; rfl) | skip
  intro j
  simp only [modDisp_disps, PerDisp.get_set]
  split
  · subst_vars; exact e _
  · rfl

theorem setOut_settled {o : OutPoint} {r : OutRec} (e1 : r.safety = (q.outs.get o).safety)
    (e2 : r.manual = (q.outs.get o).manual) (e3 : r.observed = (q.outs.get o).observed)
    (e4 : r.travelLimit = (q.outs.get o).travelLimit) (h : p.Settled q) : p.Settled (q.setOut o r) := by
  refine h.trans ?_
  constructor <;> first | rfl | (intro; rfl) | skip
  all_goals
    intro j
    simp only [setOut_outs, Outs.get_set]
    split
    · subst_vars; assumption
    · rfl

theorem OutRec.tested_safety (r : OutRec) (m : Bool) (v : OutVal) : (r.tested m v).safety = r.safety := by
  unfold OutRec.tested; split <;> rfl

theorem OutRec.tested_manual (r : OutRec) (m : Bool) (v : OutVal) : (r.tested m v).manual = r.manual := by
  unfold OutRec.tested; split <;> rfl

theorem OutRec.tested_function (r : OutRec) (m : Bool) (v : OutVal) : (r.tested m v).function = r.function := by
  unfold OutRec.tested; split <;> rfl

theorem OutRec.tested_observed (r : OutRec) (m : Bool) (v : OutVal) : (r.tested m v).observed = r.observed := by
  unfold OutRec.tested; split <;> rfl

theorem OutRec.tested_travelLimit (r : OutRec) (m : Bool) (v : OutVal) :
    (r.tested m v).travelLimit = r.travelLimit := by
  unfold OutRec.tested; split <;> rfl

/-- The test of R166 leaves the record commanded to the value of its effective owner. -/
theorem OutRec.tested_commanded (r : OutRec) (m : Bool) (v : OutVal) :
    (r.tested m v).commanded = r.chosen m v := by
  unfold OutRec.tested
  split
  · exact Eq.symm ‹_›
  · rfl

theorem setFunction_settled {o : OutPoint} {v : Option OutVal} (h : p.Settled q) : p.Settled (setFunction o v q) :=
  setOut_settled rfl rfl rfl rfl h

/-- A claim is written without a new command: the test of R166 is made as the event ends. -/
theorem setFunction_commanded (p : Plant) (o x : OutPoint) (v : Option OutVal) :
    ((setFunction o v p).outs.get x).commanded = (p.outs.get x).commanded := by
  simp only [setFunction, setOut_outs, Outs.get_set]
  split
  · subst_vars; rfl
  · rfl

/-- The end of an event leaves each output commanded to the value of its effective owner (R166). -/
theorem retestOutputs_commanded (p : Plant) (o : OutPoint) :
    ((retestOutputs p).outs.get o).commanded = p.valueOf o := by
  simp only [retestOutputs, Outs.get_mapId, Plant.valueOf]
  exact OutRec.tested_commanded ..

theorem driveValve_settled {o : OutPoint} {b : Bool} (h : p.Settled q) : p.Settled (driveValve o b q) :=
  setFunction_settled h

theorem drivePcv_settled {d : Disp} {n : Nat} (h : p.Settled q) : p.Settled (drivePcv d n q) :=
  setFunction_settled h

theorem retestOutputs_settled (h : p.Settled q) : p.Settled (retestOutputs q) := by
  refine h.trans ?_
  constructor <;> first | rfl | (intro; rfl) | skip
  all_goals
    intro o
    simp only [retestOutputs, Outs.get_mapId]
  · exact OutRec.tested_safety ..
  · exact OutRec.tested_manual ..
  · exact OutRec.tested_observed ..
  · exact OutRec.tested_travelLimit ..

theorem putRamp_settled {d : Disp} {x : RampRec} (h : p.Settled q) : p.Settled (putRamp d x q) :=
  modDisp_settled (fun _ => rfl) h

/-! ## Banks and compressors -/

theorem setBanks_settled {k : BankId} {b : BankRec} (e : b.paper = (q.banks.get k).paper) (h : p.Settled q) :
    p.Settled { q with banks := q.banks.set k b } := by
  refine h.trans ?_
  constructor <;> first | rfl | (intro; rfl) | skip
  intro j
  simp only [PerBank.get_set]
  split
  · subst_vars; exact e
  · rfl

theorem putBank_settled {k : BankId} {b : BankRec} (e : b.paper = (q.banks.get k).paper) (h : p.Settled q) :
    p.Settled (putBank k b q) := by
  unfold putBank
  dsimp only
  split
  · exact setBanks_settled e h
  · exact setRenew_settled (notify_settled (setBanks_settled e h))

theorem setComps_settled {c : CompId} {x : CompRec} (e : x.enabled = (q.comps.get c).enabled) (h : p.Settled q) :
    p.Settled { q with comps := q.comps.set c x } := by
  refine h.trans ?_
  constructor <;> first | rfl | (intro; rfl) | skip
  intro j
  simp only [PerComp.get_set]
  split
  · subst_vars; exact e
  · rfl

theorem withdrawDischarge_settled {c : CompId} (h : p.Settled q) : p.Settled (withdrawDischarge c q) :=
  eachBank_settled (fun _ _ h => setFunction_settled h) h

theorem putComp_settled {c : CompId} {x : CompRec} (e : x.enabled = (q.comps.get c).enabled) (h : p.Settled q) :
    p.Settled (putComp c x q) := by
  have base := setComps_settled e h
  unfold putComp
  dsimp only
  split <;> split
  · exact withdrawDischarge_settled (setFunction_settled base)
  · exact withdrawDischarge_settled (setFunction_settled (notify_settled base))
  · exact driveValve_settled base
  · exact driveValve_settled (notify_settled base)

theorem compEnter_settled {c : CompId} {x : CompState} (h : p.Settled q) : p.Settled (compEnter c x q) :=
  putComp_settled (by rfl) h

theorem afterFill_settled {c : CompId} (h : p.Settled q) : p.Settled (afterFill c q) := compEnter_settled h

theorem closeDischarge_settled {c : CompId} {k : BankId} (h : p.Settled q) : p.Settled (closeDischarge c k q) :=
  setComps_settled (by rfl) (driveValve_settled h)

theorem dropFill_settled {c : CompId} (h : p.Settled q) : p.Settled (dropFill c q) := by
  unfold dropFill
  split
  · exact putBank_settled (by rfl) (closeDischarge_settled h)
  · exact h

theorem endLoad_settled {c : CompId} (h : p.Settled q) : p.Settled (endLoad c q) := by
  unfold endLoad
  split
  · exact afterFill_settled (dropFill_settled h)
  · exact h

theorem loadBank_settled {c : CompId} {k : BankId} (h : p.Settled q) : p.Settled (loadBank c k q) :=
  compEnter_settled (putBank_settled (by rfl) h)

theorem unloadedChooses_settled {c : CompId} (h : p.Settled q) : p.Settled (unloadedChooses c q) := by
  unfold unloadedChooses
  split
  · split
    · split
      · exact loadBank_settled h
      · exact h
    · exact h
  · exact h

theorem openDischarge_settled {c : CompId} (h : p.Settled q) : p.Settled (openDischarge c q) := by
  unfold openDischarge
  split
  · split
    · exact h
    · split
      · exact h
      · exact setComps_settled (by rfl) (driveValve_settled h)
  · exact h

theorem takeBank_settled {d : Disp} {k : BankId} (h : p.Settled q) : p.Settled (takeBank d k q) := by
  unfold takeBank
  dsimp only
  split
  · exact putBank_settled (by rfl) h
  · exact afterFill_settled (closeDischarge_settled (putBank_settled (by rfl) h))

theorem dropDrawer_settled {d : Disp} {k : BankId} (h : p.Settled q) : p.Settled (dropDrawer d k q) :=
  putBank_settled (by rfl) h

/-! ## The grant list, the stages and arming -/

theorem file_settled {w : Requester} {c : RequestClass} {n : Nat} (h : p.Settled q) : p.Settled (file w c n q) :=
  evaluate_settled (setGrants_settled h)

theorem release_settled {w : Requester} (h : p.Settled q) : p.Settled (release w q) := by
  unfold release
  split
  · exact h
  · exact evaluate_settled (setGrants_settled h)

theorem arming_settled {d : Disp} (h : p.Settled q) : p.Settled (arming d q) := by
  unfold arming
  split
  · split
    · exact file_settled h
    · exact h
  · split
    · exact release_settled h
    · exact h

theorem releaseFill_settled {d : Disp} (h : p.Settled q) : p.Settled (releaseFill d q) := by
  unfold releaseFill
  split
  · split
    · split
      · exact file_settled h
      · exact release_settled h
    · exact h
  · exact h

theorem putStage_settled {x : StageId} {y : StageRec} (h : p.Settled q) : p.Settled (putStage x y q) := by
  unfold putStage
  dsimp only
  apply setFunction_settled
  split
  · exact setStages_settled h
  · exact notify_settled (setStages_settled h)

theorem startOne_settled (h : p.Settled q) : p.Settled (startOne q) := by
  unfold startOne
  split
  · split
    · exact putStage_settled h
    · exact h
  · exact h

theorem startDecision_settled (h : p.Settled q) : p.Settled (startDecision q) :=
  startOne_settled (startOne_settled (startOne_settled h))

theorem settleStopTimer_settled (h : p.Settled q) : p.Settled (settleStopTimer q) := by
  unfold settleStopTimer
  split
  · split
    · exact h
    · exact setStop_settled h
  · exact setStop_settled h

theorem claimPrv_settled {d : Disp} (h : p.Settled q) : p.Settled (claimPrv d q) := setFunction_settled h

theorem stoppedComp_settled {c : CompId} (h : p.Settled q) : p.Settled (stoppedComp c q) := by
  unfold stoppedComp
  dsimp only
  split
  · split <;> split
    · exact compEnter_settled h
    · exact h
    · exact compEnter_settled (file_settled h)
    · exact file_settled h
  · exact release_settled h

theorem compActs_settled {c : CompId} (h : p.Settled q) : p.Settled (compActs c q) := by
  unfold compActs
  split
  · exact stoppedComp_settled h
  · split
    · exact unloadedChooses_settled (endLoad_settled h)
    · exact h
  · exact unloadedChooses_settled h
  · exact h

theorem compStopping_settled {c : CompId} (h : p.Settled q) : p.Settled (compStopping c q) := by
  unfold compStopping
  split
  · exact compEnter_settled (dropFill_settled h)
  · exact compEnter_settled (dropFill_settled h)
  · exact compEnter_settled (dropFill_settled h)
  · exact h

theorem giveOrder_settled {c : CompId} {k : CloseKind} (h : p.Settled q) : p.Settled (giveOrder c k q) := by
  unfold giveOrder
  split
  · exact compStopping_settled (setComps_settled (by rfl) h)
  · dsimp only
    split
    · exact compEnter_settled (setComps_settled (by rfl) h)
    · exact setComps_settled (by rfl) h

/-! ## Ramps and sessions -/

theorem addPause_settled {d : Disp} {c : PauseCause} (h : p.Settled q) : p.Settled (addPause d c q) := by
  unfold addPause
  split
  · exact h
  · split
    · exact h
    · dsimp only
      split
      · exact drivePcv_settled (modDisp_settled (fun _ => rfl) (putRamp_settled h))
      · exact modDisp_settled (fun _ => rfl) (putRamp_settled h)

theorem removePause_settled {d : Disp} {c : PauseCause} (h : p.Settled q) : p.Settled (removePause d c q) := by
  unfold removePause
  split
  · exact h
  · exact putRamp_settled h

theorem leaveQueue_settled {x : Hose} (h : p.Settled q) : p.Settled (leaveQueue x q) :=
  modSession_settled (fun y => by split <;> rfl) h

theorem noticeSession_settled {x : Hose} (h : p.Settled q) : p.Settled (noticeSession x q) := notify_settled h

theorem shutValves_settled {x : Hose} (h : p.Settled q) : p.Settled (shutValves x q) :=
  eachBank_settled (fun _ _ h => driveValve_settled h) (driveValve_settled (drivePcv_settled h))

theorem releaseBank_settled {x : Hose} (h : p.Settled q) : p.Settled (releaseBank x q) := by
  unfold releaseBank
  split
  · exact h
  · exact dropDrawer_settled (driveValve_settled (modSession_settled (fun _ => rfl) h))

theorem endFill_settled {x : Hose} {e : EndReason} (h : p.Settled q) : p.Settled (endFill x e q) := by
  unfold endFill
  dsimp only
  split
  · exact setClasses_settled (modDisp_settled (fun _ => rfl) (releaseFill_settled (releaseBank_settled
      (shutValves_settled (noticeSession_settled (modSession_settled (fun _ => rfl) h))))))
  · exact h

theorem endFor_settled {x : Hose} {es : List EndReason} (h : p.Settled q) : p.Settled (endFor x es q) := by
  unfold endFor
  split
  · exact endFill_settled h
  · exact h

theorem requestBank_settled {x : Hose} {t : Tier} (h : p.Settled q) : p.Settled (requestBank x t q) := by
  unfold requestBank
  split
  · exact h
  · split
    · exact h
    · exact modSession_settled (fun _ => rfl) (takeBank_settled h)

theorem requestFirst_settled {x : Hose} (h : p.Settled q) : p.Settled (requestFirst x q) := requestBank_settled h

theorem precheckBank_settled {x : Hose} (h : p.Settled q) : p.Settled (precheckBank x q) := by
  unfold precheckBank
  split
  · exact driveValve_settled (modSession_settled (fun _ => rfl) h)
  · exact modSession_settled (fun _ => rfl) h

theorem renew_settled {x : Hose} (h : p.Settled q) : p.Settled (renew x q) := by
  unfold renew
  dsimp only
  split
  · split
    · split
      · exact precheckBank_settled (requestFirst_settled h)
      · exact removePause_settled (addPause_settled (requestFirst_settled h))
      · exact requestFirst_settled h
    · exact requestFirst_settled h
  · exact h

theorem enterPrecheck_settled {x : Hose} (h : p.Settled q) : p.Settled (enterPrecheck x q) := by
  have base := shutValves_settled (x := x) (modDisp_settled (d := x.disp)
    (f := fun c => { c with silence := .start, zeroCount := 0 }) (fun _ => rfl) (leaveQueue_settled (x := x)
    (modSession_settled (x := x) (f := fun y =>
      { y with state := .precheck, wait := none, queuePos := none, entered := true, coupling := y.coupling.stop })
      (fun _ => rfl) h)))
  unfold enterPrecheck
  dsimp only
  split
  · exact precheckBank_settled (requestFirst_settled (file_settled base))
  · exact endFill_settled base

theorem rampSample_settled {x : Hose} {n : Nat} (h : p.Settled q) : p.Settled (rampSample x n q) := by
  unfold rampSample
  split
  · exact h
  · dsimp only
    split
    · split
      · exact endFill_settled (putRamp_settled h)
      · exact endFill_settled (modDisp_settled (fun _ => rfl) (putRamp_settled h))
    · split
      · apply drivePcv_settled
        split
        · exact putRamp_settled h
        · exact modDisp_settled (fun _ => rfl) (putRamp_settled h)
      · split
        · exact putRamp_settled h
        · exact modDisp_settled (fun _ => rfl) (putRamp_settled h)

theorem enterFilling_settled {x : Hose} (h : p.Settled q) : p.Settled (enterFilling x q) := by
  unfold enterFilling
  dsimp only
  exact rampSample_settled (noticeSession_settled (setClasses_settled (modSession_settled (fun _ => rfl)
    (modDisp_settled (fun _ => rfl) h))))

theorem tryFilling_settled {x : Hose} (h : p.Settled q) : p.Settled (tryFilling x q) := by
  unfold tryFilling
  split
  · exact enterFilling_settled h
  · exact h

theorem openInlet_settled {d : Disp} (h : p.Settled q) : p.Settled (openInlet d q) := by
  unfold openInlet
  split
  · exact h
  · split
    · exact h
    · split
      · exact h
      · split
        · exact driveValve_settled h
        · exact h

theorem endSwitch_settled {d : Disp} (h : p.Settled q) : p.Settled (endSwitch d q) := by
  unfold endSwitch
  split
  · exact h
  · dsimp only
    split
    · exact h
    · split
      · split
        · exact modSession_settled (fun _ => rfl) (modDisp_settled (fun _ => rfl) (removePause_settled h))
        · exact h
      · split
        · exact modSession_settled (fun _ => rfl) (removePause_settled h)
        · exact h
      · exact h

theorem pulseReadbacks_settled {x : Hose} (h : p.Settled q) : p.Settled (pulseReadbacks x q) := by
  unfold pulseReadbacks
  dsimp only
  split
  · split
    · split
      · exact drivePcv_settled (modSession_settled (fun _ => rfl) h)
      · exact h
    · split
      · exact modSession_settled (fun _ => rfl) h
      · exact h
    · exact h
  · exact h

theorem emptyRamp_settled {x : Hose} (h : p.Settled q) : p.Settled (emptyRamp x q) :=
  modDisp_settled (fun _ => rfl) h

theorem settledToIdle_settled {x : Hose} (h : p.Settled q) : p.Settled (settledToIdle x q) := by
  unfold settledToIdle
  dsimp only
  split
  · split
    · exact emptyRamp_settled (modSession_settled (fun _ => rfl) (setKeep_settled h))
    · exact emptyRamp_settled (modSession_settled (fun _ => rfl) h)
  · exact h

theorem freshWait_settled {x : Hose} (h : p.Settled q) : p.Settled (freshWait x q) := by
  unfold freshWait
  split
  · split
    · exact modSession_settled (fun _ => rfl) h
    · exact h
  · exact h

theorem handover_settled {d : Disp} (h : p.Settled q) : p.Settled (handover d q) := by
  unfold handover
  dsimp only
  split
  · split
    · exact enterPrecheck_settled h
    · split
      · exact enterPrecheck_settled h
      · exact h
  · exact h

theorem parkNow_settled {d : Disp} (h : p.Settled q) : p.Settled (parkNow d q) := by
  unfold parkNow
  dsimp only
  split
  · exact stopIntervals_settled (modDisp_settled (fun _ => rfl) h)
  · exact notify_settled (stopIntervals_settled (modDisp_settled (fun _ => rfl) h))

theorem parkWhenQuiet_settled {d : Disp} (h : p.Settled q) : p.Settled (parkWhenQuiet d q) := by
  unfold parkWhenQuiet
  split
  · exact parkNow_settled h
  · exact h

/-! ## The settling -/

theorem renewals_settled (h : p.Settled q) : p.Settled (renewals q) := by
  unfold renewals
  split
  · refine eachDisp_settled (fun d q h => ?_) (setRenew_settled h)
    split
    · exact renew_settled h
    · exact h
  · exact h

theorem round_settled (h : p.Settled q) : p.Settled (round q) :=
  eachComp_settled (fun _ _ h => openDischarge_settled h) <|
  renewals_settled <|
  eachDisp_settled (fun _ _ h => endSwitch_settled h) <|
  eachHose_settled (fun _ _ h => pulseReadbacks_settled h) <|
  eachDisp_settled (fun _ _ h => openInlet_settled h) <|
  eachHose_settled (fun _ _ h => tryFilling_settled h) <|
  eachComp_settled (fun _ _ h => compActs_settled h) <|
  startDecision_settled <|
  eachDisp_settled (fun _ _ h => arming_settled h) <|
  eachHose_settled (fun _ _ h => freshWait_settled h) <|
  eachDisp_settled (fun _ _ h => handover_settled h) <|
  eachHose_settled (fun _ _ h => settledToIdle_settled h) <|
  eachDisp_settled (fun _ _ h => parkWhenQuiet_settled h) h

theorem rounds_settled (n : Nat) (h : p.Settled q) : p.Settled (rounds n q) := by
  induction n generalizing q with
  | zero => exact h
  | succ n ih => exact ih (round_settled h)

theorem closeRound_settled (h : p.Settled q) : p.Settled (closeRound q) :=
  setRenew_settled (retestOutputs_settled (settleStopTimer_settled
    (eachDisp_settled (fun _ _ h => claimPrv_settled h) h)))

theorem shutDown_settled (h : p.Settled q) : p.Settled (shutDown q) :=
  eachComp_settled (fun _ _ h => giveOrder_settled h) (setGiven_settled h)

theorem clearOrders_settled (h : p.Settled q) : p.Settled (clearOrders q) := by
  refine h.trans ?_
  constructor <;> first | rfl | (intro; rfl) | skip
  intro c
  simp [clearOrders]

theorem closeWith_settled (c : CloseCause) (f : Batch → Bool) (s : State) : Settled s (closeWith c f s) where
  plant := notifyAll_settled (.refl _)
  office := by constructor <;> rfl
  pending := rfl

theorem closed_settled (h : Settled s t) : Settled s (closed t) :=
  Settled.onPlant (f := fun p => clearOrders (notify (.stationMode .closed none) (p.atMode .closed none)))
    (clearOrders_settled (notify_settled (atMode_settled (.refl _)))) (h.trans (closeWith_settled _ _ t))

theorem closingStep_settled (h : Settled s t) : Settled s (closingStep t) := by
  have quiet : Settled s (t.onPlant fun p => { p with quiet := p.quietNow }) :=
    .onPlant (setQuiet_settled (.refl _)) h
  unfold closingStep
  dsimp only
  split
  · split <;> split
    · exact closed_settled (.onPlant (shutDown_settled (.refl _)) quiet)
    · exact .onPlant (shutDown_settled (.refl _)) quiet
    · exact closed_settled quiet
    · exact quiet
  · exact h

theorem clearSeeks_settled (s : State) : Settled s (clearSeeks s) where
  plant := .refl _
  office := by constructor <;> rfl
  pending := rfl

/-- The settling of an event leaves as they were the records no block's answer can reach. -/
theorem settle_settled (s : State) : Settled s (settle s) := by
  have h1 : Settled s (s.onPlant (rounds 4)) := .onPlant (rounds_settled 4 (.refl _)) (.refl s)
  have h2 := closingStep_settled h1
  have h3 : Settled s ((closingStep (s.onPlant (rounds 4))).onPlant fun p => closeRound (rounds 2 p)) :=
    .onPlant (f := fun p => closeRound (rounds 2 p)) (closeRound_settled (rounds_settled 2 (.refl _))) h2
  exact h3.trans (clearSeeks_settled _)

/-! ## The reply queue -/

theorem closingStep_replies (s : State) : (closingStep s).office.replies = s.office.replies := by
  unfold closingStep
  dsimp only
  split
  · split <;> split <;> rfl
  · rfl

@[simp] theorem clearSeeks_replies (s : State) : (clearSeeks s).office.replies = s.office.replies := rfl

/-- The settling of an event adds no reply and takes none. -/
@[simp] theorem settle_replies (s : State) : (settle s).office.replies = s.office.replies := by
  simp only [settle, clearSeeks_replies, onPlant_office, closingStep_replies]

@[simp] theorem settle_pending (s : State) : (settle s).pending = s.pending := (settle_settled s).pending

end Sys2Proof.Machine
end

