-- ==== Sys2Proof/Laws/Answers.lean ====
section
/-! SUPPORT. What answering a request can do: one lemma for each outcome of its owning block. -/

namespace Sys2Proof.Machine

variable {s t : State} {act : State → Answer}

/-- Where eight replies wait, a request is counted and does nothing else (R187). -/
theorem respond_overrun (kind : Nat) (tag : Byte) (h : ¬ s.room) : respond kind tag act s = overrun s := if_neg h

/-- A refused request is answered with its status, and changes nothing else. -/
theorem respond_refused (kind : Nat) (tag : Byte) (h : s.room) {c : Status} (e : act s = .refused c) :
    respond kind tag act s = reply kind tag c [] s := by
  rw [respond, if_pos (show s.office.replies.length < Config.replyPlaces from h), e]

/-- A request that reads is answered OK with its items, and changes nothing else. -/
theorem respond_read (kind : Nat) (tag : Byte) (h : s.room) {items : List Byte} (e : act s = .read items) :
    respond kind tag act s = reply kind tag .ok items s := by
  rw [respond, if_pos (show s.office.replies.length < Config.replyPlaces from h), e]

/-- A request kept to the office is answered after its change. -/
theorem respond_kept (kind : Nat) (tag : Byte) (h : s.room) {st : Status} {items : List Byte}
    (e : act s = .kept st items t) : respond kind tag act s = reply kind tag st items t := by
  rw [respond, if_pos (show s.office.replies.length < Config.replyPlaces from h), e]

/-- A taken request is answered after its event is settled. -/
theorem respond_taken (kind : Nat) (tag : Byte) (h : s.room) {st : Status} {items : List Byte}
    (e : act s = .taken st items t) : respond kind tag act s = reply kind tag st items (settle t) := by
  rw [respond, if_pos (show s.office.replies.length < Config.replyPlaces from h), e]

@[simp] theorem reply_plant (kind : Nat) (tag : Byte) (st : Status) (items : List Byte) (s : State) :
    (reply kind tag st items s).plant = s.plant := rfl

@[simp] theorem reply_replies (kind : Nat) (tag : Byte) (st : Status) (items : List Byte) (s : State) :
    (reply kind tag st items s).office.replies = s.office.replies ++ [⟨kind, tag, st, s.plant.lost, items⟩] := rfl

@[simp] theorem reply_pending (kind : Nat) (tag : Byte) (st : Status) (items : List Byte) (s : State) :
    (reply kind tag st items s).pending = s.pending := rfl

/-- A reply touches the reply queue alone. -/
theorem reply_settled (kind : Nat) (tag : Byte) (st : Status) (items : List Byte) (s : State) :
    Settled s (reply kind tag st items s) where
  plant := .refl _
  office := by constructor <;> rfl
  pending := rfl

/-- What a taken request leaves: the state its block wrote, settled, with one reply more. -/
theorem respond_taken_settled (kind : Nat) (tag : Byte) (h : s.room) {st : Status} {items : List Byte}
    (e : act s = .taken st items t) (hr : t.office.replies = s.office.replies) :
    Settled t (respond kind tag act s) ∧ Replied s (respond kind tag act s) kind tag st items := by
  rw [respond_taken kind tag h e]
  exact ⟨(settle_settled t).trans (reply_settled ..), by simp [Replied, hr]⟩

end Sys2Proof.Machine
end

