-- ==== Sys2Proof/Laws/Codec.lean ====
section
/-! SUPPORT. The big-endian fields of the link: how many bytes a number takes, and that it is read back from them. -/

namespace Sys2Proof.Machine

@[simp] theorem beBytes_length (n x : Nat) : (beBytes n x).length = n := by
  induction n generalizing x with
  | zero => rfl
  | succ n ih => simp [beBytes, ih]

@[simp] theorem u8_length (x : Nat) : (u8 x).length = 1 := rfl
@[simp] theorem u16_length (x : Nat) : (u16 x).length = 2 := rfl
@[simp] theorem u32_length (x : Nat) : (u32 x).length = 4 := rfl
@[simp] theorem u64_length (x : Nat) : (u64 x).length = 8 := rfl

@[simp] theorem optItem_length (n : Nat) (x : Option Nat) : (optItem n x).length = n + 1 := by
  cases x <;> simp [optItem] <;> omega

theorem beNat_append_one (bs : List Byte) (b : Byte) : beNat (bs ++ [b]) = beNat bs * 256 + b.toNat := by
  simp [beNat]

/-- A number that fits its bytes is read back from them. -/
theorem beNat_beBytes (n x : Nat) (h : x < 256 ^ n) : beNat (beBytes n x) = x := by
  induction n generalizing x with
  | zero =>
    have : x = 0 := by simpa using h
    subst this
    rfl
  | succ n ih =>
    have h1 : x / 256 < 256 ^ n := by
      apply Nat.div_lt_of_lt_mul
      rw [Nat.pow_succ] at h
      omega
    rw [beBytes, beNat_append_one, ih _ h1, BitVec.toNat_ofNat]
    omega

/-- A field read at its offset, where what stands before it has that length. -/
theorem numAt_append (as bs cs : List Byte) {k n : Nat} (hk : as.length = k) (hn : bs.length = n) :
    numAt (as ++ (bs ++ cs)) k n = beNat bs := by
  subst hk hn
  simp [numAt]

end Sys2Proof.Machine
end

