-- ==== Sys2Proof/Laws/Credentials.lean ====
section
/-! SUPPORT. The credential table: a read after a write, and the canonical form that every write keeps. -/

namespace Sys2Proof.Machine

variable {i j lo n : Nat} {c : Cred} {cs : List (Nat × Cred)}

/-- The entry written at an index is read back from it. -/
theorem credAt_put_same (i : Nat) (c : Cred) (cs : List (Nat × Cred)) : credAt i (credPut i c cs) = some c := by
  induction cs with
  | nil => simp [credPut, credAt]
  | cons e cs ih =>
    unfold credPut
    split
    · simp [credAt]
    · split
      · simp [credAt]
      · rename_i h
        have g : e.1 ≠ i := fun x => h x.symm
        simpa [credAt, g] using ih

/-- Every other entry reads as before. -/
theorem credAt_put_other (h : j ≠ i) (c : Cred) (cs : List (Nat × Cred)) : credAt j (credPut i c cs) = credAt j cs := by
  induction cs with
  | nil => simp [credPut, credAt, h.symm]
  | cons e cs ih =>
    unfold credPut
    split
    · simp [credAt, h.symm]
    · split
      · rename_i g
        simp [credAt, h.symm, ← g]
      · simp [credAt, ih]

/-- A deleted entry is EMPTY. -/
theorem credAt_drop_same (i : Nat) (cs : List (Nat × Cred)) : credAt i (credDrop i cs) = none := by
  induction cs with
  | nil => rfl
  | cons e cs ih =>
    by_cases h : e.1 = i
    · simpa [credDrop, h] using ih
    · simpa [credDrop, h, credAt] using ih

theorem credsFrom_weaken (h : lo ≤ n) : credsFrom n cs = true → credsFrom lo cs = true := by
  cases cs with
  | nil => exact id
  | cons e cs =>
    simp only [credsFrom, Bool.and_eq_true, decide_eq_true_eq]
    exact fun ⟨⟨a, b⟩, c⟩ => ⟨⟨Nat.le_trans h a, b⟩, c⟩

/-- A write keeps the table in its canonical form. -/
theorem credsFrom_put (hlo : lo ≤ i) (hi : i < Config.credentialEntries) :
    credsFrom lo cs = true → credsFrom lo (credPut i c cs) = true := by
  induction cs generalizing lo with
  | nil => simp [credPut, credsFrom, hlo, hi]
  | cons e cs ih =>
    intro h
    unfold credPut
    simp only [credsFrom, Bool.and_eq_true, decide_eq_true_eq] at h
    split
    · simp only [credsFrom, Bool.and_eq_true, decide_eq_true_eq]
      exact ⟨⟨hlo, hi⟩, ⟨by omega, h.1.2⟩, h.2⟩
    · split
      · rename_i g
        simp only [credsFrom, Bool.and_eq_true, decide_eq_true_eq]
        exact ⟨⟨hlo, hi⟩, g ▸ h.2⟩
      · simp only [credsFrom, Bool.and_eq_true, decide_eq_true_eq]
        exact ⟨h.1, ih (by omega) h.2⟩

/-- A deletion keeps the table in its canonical form. -/
theorem credsFrom_drop : credsFrom lo cs = true → credsFrom lo (credDrop i cs) = true := by
  induction cs generalizing lo with
  | nil => exact id
  | cons e cs ih =>
    intro h
    simp only [credsFrom, Bool.and_eq_true, decide_eq_true_eq] at h
    by_cases g : e.1 = i
    · have := credsFrom_weaken (lo := lo) (Nat.le_succ_of_le h.1.1) (ih h.2)
      simpa [credDrop, g] using this
    · have := ih h.2
      simp only [credDrop, ne_eq, decide_not] at this
      simp [credDrop, g, credsFrom, h.1, this]

end Sys2Proof.Machine
end

