-- ==== Sys2Proof/Laws/Finite.lean ====
section
/-! SUPPORT. A statement about every unit or every output holds if it holds along the list of them, which can be evaluated. -/

namespace Sys2Proof

theorem Disp.forall_of_all {P : Disp → Prop} [DecidablePred P] (h : Disp.all.all (fun d => decide (P d)) = true) (d : Disp) :
    P d := by
  have := List.all_eq_true.mp h d (by cases d <;> decide)
  simpa using this

theorem Hose.forall_of_all {P : Hose → Prop} [DecidablePred P] (h : Hose.all.all (fun x => decide (P x)) = true) (x : Hose) :
    P x := by
  have := List.all_eq_true.mp h x (by cases x <;> decide)
  simpa using this

theorem BankId.forall_of_all {P : BankId → Prop} [DecidablePred P] (h : BankId.all.all (fun k => decide (P k)) = true)
    (k : BankId) : P k := by
  have := List.all_eq_true.mp h k (by cases k <;> decide)
  simpa using this

theorem CompId.forall_of_all {P : CompId → Prop} [DecidablePred P] (h : CompId.all.all (fun c => decide (P c)) = true)
    (c : CompId) : P c := by
  have := List.all_eq_true.mp h c (by cases c <;> decide)
  simpa using this

theorem OutPoint.mem_all (o : OutPoint) : o ∈ Machine.OutPoint.all := by
  cases o with
  | inlet d k => cases d <;> cases k <;> decide
  | discharge c k => cases c <;> cases k <;> decide
  | pcv d => cases d <;> decide
  | prv d => cases d <;> decide
  | hv h => cases h <;> decide
  | compRun c => cases c <;> decide
  | stageRun x => cases x <;> decide

theorem OutPoint.forall_of_all {P : OutPoint → Prop} [DecidablePred P]
    (h : Machine.OutPoint.all.all (fun o => decide (P o)) = true) (o : OutPoint) : P o := by
  have := List.all_eq_true.mp h o (mem_all o)
  simpa using this

end Sys2Proof
end

