-- ==== Sys2Proof/Laws/PerInstr.lean ====
section
/-! SUPPORT. `FrameFits`: the frame of a well-formed request is one the link can carry (R185, R190), said of each command. -/

namespace Sys2Proof.Laws.FrameFits

open Machine

/-- A well-formed request's frame fits the link; a command that is no request has none. -/
def Statement (i : Instr) : Prop :=
  i.wf = true → ∀ f, requestFrame i = some f → 1 ≤ f.kind ∧ f.kind < 0x40 ∧ f.body.length ≤ 1024

/-- A command that is no request. -/
theorem of_none {i : Instr} (h : requestFrame i = none) : Statement i := by
  intro _ f e
  rw [h] at e
  cases e

/-- A request with its frame. -/
theorem of_frame {i : Instr} {k : Nat} {t : Byte} {b : List Byte} (h : requestFrame i = some ⟨k, t, b⟩)
    (hk : 1 ≤ k ∧ k < 0x40) (hb : i.wf = true → b.length ≤ 1024) : Statement i := by
  intro w f e
  rw [h] at e
  cases e
  exact ⟨hk.1, hk.2, hb w⟩

theorem credBody_length (x : CredItems) : (credBody x).length = 32 := by simp [credBody]

theorem orderBody_length (x : OrderItems) : (orderBody x).length = 20 := by
  unfold orderBody
  split <;> simp

theorem periods_length (xs : List PeriodItems) : (xs.flatMap periodBody).length = 34 * xs.length := by
  induction xs with
  | nil => rfl
  | cons x xs ih =>
    simp only [List.flatMap_cons, List.length_append, List.length_cons, ih, periodBody, u16_length, u32_length]
    omega

theorem powerOn : Statement .powerOn :=
  of_none rfl

theorem receiveFrame (bytes : List Byte) : Statement (.receiveFrame bytes) :=
  of_none rfl

theorem frameGapTimeout : Statement .frameGapTimeout :=
  of_none rfl

theorem transmitNextFrame : Statement .transmitNextFrame :=
  of_none rfl

theorem stationStatus (tag : Byte) : Statement (.stationStatus tag) :=
  of_frame rfl (by decide) fun _ => by simp

theorem setClock (tag : Byte) (day second : Nat) : Statement (.setClock tag day second) :=
  of_frame rfl (by decide) fun _ => by simp

theorem configure (tag : Byte) (id unit point value : Nat) : Statement (.configure tag id unit point value) :=
  of_frame rfl (by decide) fun _ => by simp

theorem readConfiguration (tag : Byte) (id unit point : Nat) : Statement (.readConfiguration tag id unit point) :=
  of_frame rfl (by decide) fun _ => by simp

theorem openStation (tag : Byte) : Statement (.openStation tag) :=
  of_frame rfl (by decide) fun _ => by simp

theorem closeStation (tag : Byte) (kind : Nat) : Statement (.closeStation tag kind) :=
  of_frame rfl (by decide) fun _ => by simp

theorem park (tag : Byte) (disp : Nat) : Statement (.park tag disp) :=
  of_frame rfl (by decide) fun _ => by simp

theorem unpark (tag : Byte) (disp : Nat) : Statement (.unpark tag disp) :=
  of_frame rfl (by decide) fun _ => by simp

theorem setHold (tag : Byte) : Statement (.setHold tag) :=
  of_frame rfl (by decide) fun _ => by simp

theorem releaseHold (tag : Byte) : Statement (.releaseHold tag) :=
  of_frame rfl (by decide) fun _ => by simp

theorem setTrip (tag : Byte) : Statement (.setTrip tag) :=
  of_frame rfl (by decide) fun _ => by simp

theorem resetTrip (tag : Byte) : Statement (.resetTrip tag) :=
  of_frame rfl (by decide) fun _ => by simp

theorem restart (tag : Byte) : Statement (.restart tag) :=
  of_frame rfl (by decide) fun _ => by simp

theorem authoriseHose (tag : Byte) (hose issuer token : Nat) (preset massLimit targetSoc : Option Nat) : Statement (.authoriseHose tag hose issuer token preset massLimit targetSoc) :=
  of_frame rfl (by decide) fun _ => by simp

theorem authoriseByOrder (tag : Byte) (busId hose : Nat) : Statement (.authoriseByOrder tag busId hose) :=
  of_frame rfl (by decide) fun _ => by simp

theorem stopHose (tag : Byte) (hose : Nat) : Statement (.stopHose tag hose) :=
  of_frame rfl (by decide) fun _ => by simp

theorem hoseStatus (tag : Byte) (hose : Nat) : Statement (.hoseStatus tag hose) :=
  of_frame rfl (by decide) fun _ => by simp

theorem armDispenser (tag : Byte) (disp minutes : Nat) : Statement (.armDispenser tag disp minutes) :=
  of_frame rfl (by decide) fun _ => by simp

theorem loadCredential (tag : Byte) (index : Nat) (desc : CredItems) (allowance : Nat) : Statement (.loadCredential tag index desc allowance) :=
  of_frame rfl (by decide) fun _ => by simp [credBody_length]

theorem addAllowance (tag : Byte) (index amount : Nat) : Statement (.addAllowance tag index amount) :=
  of_frame rfl (by decide) fun _ => by simp

theorem suspend (tag : Byte) (index : Nat) : Statement (.suspend tag index) :=
  of_frame rfl (by decide) fun _ => by simp

theorem resume (tag : Byte) (index : Nat) : Statement (.resume tag index) :=
  of_frame rfl (by decide) fun _ => by simp

theorem delete (tag : Byte) (index : Nat) : Statement (.delete tag index) :=
  of_frame rfl (by decide) fun _ => by simp

theorem readCredential (tag : Byte) (index : Nat) : Statement (.readCredential tag index) :=
  of_frame rfl (by decide) fun _ => by simp

theorem appendOrder (tag : Byte) (order : OrderItems) : Statement (.appendOrder tag order) :=
  of_frame rfl (by decide) fun _ => by simp [orderBody_length]

theorem spliceOrder (tag : Byte) (order : OrderItems) (k : Nat) : Statement (.spliceOrder tag order k) :=
  of_frame rfl (by decide) fun _ => by simp [orderBody_length]

theorem withdrawOrder (tag : Byte) (busId : Nat) : Statement (.withdrawOrder tag busId) :=
  of_frame rfl (by decide) fun _ => by simp

theorem readQueue (tag : Byte) (start : Nat) : Statement (.readQueue tag start) :=
  of_frame rfl (by decide) fun _ => by simp

theorem loadTariff (tag : Byte) (periods : List PeriodItems) : Statement (.loadTariff tag periods) := by
  refine of_frame rfl (by decide) fun w => ?_
  simp only [Instr.wf, Bool.and_eq_true, decide_eq_true_eq] at w
  simp only [List.length_append, periods_length, u8_length]
  omega

theorem readTickets (tag : Byte) (start : Nat) : Statement (.readTickets tag start) :=
  of_frame rfl (by decide) fun _ => by simp

theorem releaseTickets (tag : Byte) (number : Nat) : Statement (.releaseTickets tag number) :=
  of_frame rfl (by decide) fun _ => by simp

theorem readBatches (tag : Byte) (start : Nat) : Statement (.readBatches tag start) :=
  of_frame rfl (by decide) fun _ => by simp

theorem releaseBatches (tag : Byte) (number : Nat) : Statement (.releaseBatches tag number) :=
  of_frame rfl (by decide) fun _ => by simp

theorem flushBatches (tag : Byte) : Statement (.flushBatches tag) :=
  of_frame rfl (by decide) fun _ => by simp

theorem bankStatus (tag : Byte) : Statement (.bankStatus tag) :=
  of_frame rfl (by decide) fun _ => by simp

theorem isolateBank (tag : Byte) (bank : Nat) : Statement (.isolateBank tag bank) :=
  of_frame rfl (by decide) fun _ => by simp

theorem restoreBank (tag : Byte) (bank : Nat) : Statement (.restoreBank tag bank) :=
  of_frame rfl (by decide) fun _ => by simp

theorem compressorEnable (tag : Byte) (comp : Nat) : Statement (.compressorEnable tag comp) :=
  of_frame rfl (by decide) fun _ => by simp

theorem compressorDisable (tag : Byte) (comp : Nat) : Statement (.compressorDisable tag comp) :=
  of_frame rfl (by decide) fun _ => by simp

theorem compressorClear (tag : Byte) (comp : Nat) : Statement (.compressorClear tag comp) :=
  of_frame rfl (by decide) fun _ => by simp

theorem chillerStatus (tag : Byte) : Statement (.chillerStatus tag) :=
  of_frame rfl (by decide) fun _ => by simp

theorem clearStage (tag : Byte) (stage : Nat) : Statement (.clearStage tag stage) :=
  of_frame rfl (by decide) fun _ => by simp

theorem pointStatus (tag : Byte) (unit point : Nat) : Statement (.pointStatus tag unit point) :=
  of_frame rfl (by decide) fun _ => by simp

theorem drivePoint (tag : Byte) (unit point value : Nat) : Statement (.drivePoint tag unit point value) :=
  of_frame rfl (by decide) fun _ => by split <;> simp

theorem releasePoint (tag : Byte) (unit point : Nat) : Statement (.releasePoint tag unit point) :=
  of_frame rfl (by decide) fun _ => by simp

theorem ackEvent (tag : Byte) (unit point : Nat) : Statement (.ackEvent tag unit point) :=
  of_frame rfl (by decide) fun _ => by simp

theorem clockAdvance : Statement .clockAdvance :=
  of_none rfl

theorem rawLevel (p : SwitchPoint) (level : Nat) : Statement (.rawLevel p level) :=
  of_none rfl

theorem debounceExpiry (p : SwitchPoint) : Statement (.debounceExpiry p) :=
  of_none rfl

theorem analogSample (p : AnalogPoint) (inRange : Bool) (value : Nat) : Statement (.analogSample p inRange value) :=
  of_none rfl

theorem analogTimeout (p : AnalogPoint) : Statement (.analogTimeout p) :=
  of_none rfl

theorem meterReport (d : Disp) (increment : Nat) (fault : Bool) : Statement (.meterReport d increment fault) :=
  of_none rfl

theorem meterSilenceTimeout (d : Disp) : Statement (.meterSilenceTimeout d) :=
  of_none rfl

theorem observedReport (p : OutPoint) (value : Nat) : Statement (.observedReport p value) :=
  of_none rfl

theorem travelLimitExpiry (p : OutPoint) : Statement (.travelLimitExpiry p) :=
  of_none rfl

theorem vehicleFrame (h : Hose) (frame : VehFrame) : Statement (.vehicleFrame h frame) :=
  of_none rfl

theorem frameAgeExpiry (h : Hose) : Statement (.frameAgeExpiry h) :=
  of_none rfl

theorem switchTimerExpiry (d : Disp) : Statement (.switchTimerExpiry d) :=
  of_none rfl

theorem startTimerExpiry (c : CompId) : Statement (.startTimerExpiry c) :=
  of_none rfl

theorem unloadTimerExpiry (c : CompId) : Statement (.unloadTimerExpiry c) :=
  of_none rfl

theorem stoppingTimerExpiry (c : CompId) : Statement (.stoppingTimerExpiry c) :=
  of_none rfl

theorem stageStartTimerExpiry (s : StageId) : Statement (.stageStartTimerExpiry s) :=
  of_none rfl

theorem offTimerSatisfied (s : StageId) : Statement (.offTimerSatisfied s) :=
  of_none rfl

theorem bandTimerExpiry : Statement .bandTimerExpiry :=
  of_none rfl

theorem stopTimerExpiry : Statement .stopTimerExpiry :=
  of_none rfl

theorem armIntervalEnd (d : Disp) : Statement (.armIntervalEnd d) :=
  of_none rfl

theorem keepColdIntervalEnd (d : Disp) : Statement (.keepColdIntervalEnd d) :=
  of_none rfl

theorem classSettleExpiry (d : Disp) : Statement (.classSettleExpiry d) :=
  of_none rfl

theorem classStepTimerExpiry (d : Disp) : Statement (.classStepTimerExpiry d) :=
  of_none rfl

theorem couplingTimeout (h : Hose) : Statement (.couplingTimeout h) :=
  of_none rfl

theorem supplyWaitTimeout (h : Hose) : Statement (.supplyWaitTimeout h) :=
  of_none rfl

theorem pulseTimerExpiry (h : Hose) : Statement (.pulseTimerExpiry h) :=
  of_none rfl

theorem settleTimerExpiry (h : Hose) : Statement (.settleTimerExpiry h) :=
  of_none rfl

theorem precoolWaitTimeout (h : Hose) : Statement (.precoolWaitTimeout h) :=
  of_none rfl

theorem pauseTimerExpiry (d : Disp) (cause : PauseCause) : Statement (.pauseTimerExpiry d cause) :=
  of_none rfl

theorem corridorLowExpiry (d : Disp) : Statement (.corridorLowExpiry d) :=
  of_none rfl

theorem fillTimeLimit (d : Disp) : Statement (.fillTimeLimit d) :=
  of_none rfl

theorem afterflowComplete (d : Disp) : Statement (.afterflowComplete d) :=
  of_none rfl

theorem afterflowTimeout (h : Hose) : Statement (.afterflowTimeout h) :=
  of_none rfl

theorem batchTimerExpiry (number : Nat) : Statement (.batchTimerExpiry number) :=
  of_none rfl

end Sys2Proof.Laws.FrameFits
end

