-- ==== Sys2Proof/Tests/Slice0.lean ====
section
/-! SUPPORT. The model's own tests: ill-formed commands refused; the worked cases of the manual, each in one step or less;
and, for every statement with hypotheses, a state and operands that meet them. Expected results are the manual's. -/

namespace Sys2Proof.Tests

open Machine

/- One theorem at a time: a hundred evaluations at once would each take a thread. -/
set_option Elab.async false

/-! ## Small states -/

/-- The state a command leaves. -/
def after (c : Instr) (s : State) : State := match exec c s with | .next t => t | .fault _ => s | .refused _ => s

def reset : State := State.reset

/-- A credential entry with so much remaining. -/
def entry (kind : CredKind) (remaining : Nat) (account : Option Nat) : Cred :=
  { state := .active, issuer := 7, token := 9, kind := kind, allows70 := true, allows35 := true, priceClass := 0
    account := account, massLimit := none, amountCap := none, expiryDay := none
    loaded := remaining, remaining := remaining, openHolds := 0, consumed := 0, openCount := 0 }

/-- A price of 11,800 milli/kg for every grade and class. -/
def flat : Prices := ⟨11800, 11800, 11800, 11800⟩

/-- The clock set, a tariff loaded, and two credential entries. -/
def ready : State := reset.onOffice fun o =>
  { o with clock := some ⟨100, 3600⟩, tariff := some [⟨0, flat, flat⟩]
           creds := [(3, entry .retail 9999 none), (4, { entry .fleet 62000 (some 55) with token := 10 })] }

/-- The station OPEN, with hose 1A coupled. -/
def coupled : State := ready.onPlant fun p =>
  modSession .h1A (fun x => { x with state := .coupled }) { p with mode := .opened }

/-- Eight replies waiting. -/
def crowded : State := reset.onOffice fun o => { o with replies := List.replicate 8 ⟨1, 0#8, .ok, false, []⟩ }

/-- TRIP true under host TRIP. -/
def tripped : State := reset.onPlant fun p => placeSafety { p with hostTrip := true, trip := true }

def noPauses : Pauses := ⟨none, none, none, none, none⟩

/-- The ramp of a fill on hose 1A. -/
def ramp : RampRec :=
  ⟨.h1A, 3, .t40, .comm, 400, 400, 87500, 5000, 134000, 58600, 100, 5000, 7000, 900, noPauses, false, 0, 100000, true⟩

/-- A bank of the cascade with its samples. -/
def bank (tier : Tier) (maxP refill pressure : Nat) (drawer : Option Disp) (filler : Option CompId) (host : Bool) : BankRec :=
  ⟨tier, 3000, maxP, refill, 10000, some pressure, some 2930, .make (fun d => some d = drawer), filler,
    ⟨host, false, false, false⟩, 0⟩

/-- An output claimed by its function owner, which it follows. -/
def claim (o : OutPoint) (v : OutVal) (p : Plant) : Plant :=
  p.setOut o { p.outs.get o with function := some v, commanded := v, observed := some v, readback := .agrees }

/-- The banks of the worked bank switch (02) at t = 3.1 s. -/
def switching : PerBank BankRec :=
  ⟨bank .low 50000 40000 38000 (some .d2) none false, bank .mid 70000 60000 59900 (some .d1) none false,
    bank .high 95000 85000 78000 none (some .c1) false, bank .high 95000 85000 91000 none none true,
    bank .bus 50000 42000 46000 none none false, bank .bus 50000 42000 47000 none none false⟩

/-- A fill on hose 1A from B2, with C1 filling B3 and the chiller running; the session of 1A is in a given state. -/
def filling (st : SessionState) : State := ready.onPlant fun p =>
  let p := { p with mode := .opened, banks := switching, band := 2, grade := p.grade.set .h2B none }
  let p := { p with comps := p.comps.set .c1 ⟨.loaded .b3, true, .none, 0, 0, 0, none⟩
                    stages := .make fun _ => ⟨.running, 0, 0⟩ }
  let p := { p with grants := [⟨.disp .d1, .fill, 12, true⟩, ⟨.comp .c1, .compressor, 6, true⟩]
                    measured := p.measured.set .d1 .t40 }
  let p := (p.setAnalog (.pt .h1A) ⟨some 59000, true, 0⟩).setAnalog .supPt ⟨some 3000, true, 0⟩
  let p := p.setSession .h1A { p.sessions.get .h1A with
    state := st, bank := some .b2, entered := true, comm := some .comm, cred := some 3, hold := some 500, ticket := some 1
    price := some 11800, supplyWait := ⟨true, 0⟩, pulseStep := some .pulsing, pa := some 59000 }
  let p := modDisp .d1 (fun c => { c with ramp := some ramp, switchT := ⟨true, 3000⟩, silence := ⟨true, 2000⟩ }) p
  let p := { p with classSettle := p.classSettle.set .d1 ⟨true, 30000⟩, classStep := p.classStep.set .d1 ⟨true, 10000⟩ }
  claim (.inlet .d1 .b2) (.position true) (claim (.compRun .c1) (.position true) p)

/-- The ramp of hose 1A with one pause cause and the corridor-low hold. -/
def paused : State := (filling .filling).onPlant
  (modDisp .d1 fun c => { c with ramp := some { ramp with pauses := { noPauses with hold := some 120000 }, lowHold := true } })

/-- An open ticket of hose 1A. -/
def ticket1 : Ticket := ⟨1, .h1A, .h70, 3, .retail, none, none, ⟨100, 3600⟩, 0, 11800, 500⟩

/-- The fill of hose 1A in ENDING, or waiting, with its ticket open and its hold taken. -/
def ticketed (st : SessionState) : State :=
  ((filling st).onPlant (modSession .h1A fun x => { x with endReason := some .hostStop })).onOffice fun o =>
    { o with openTickets := [ticket1], creds := credPut 3 ((entry .retail 9999 none).takeHold 500) o.creds }

/-- A depot order of bus 4112. -/
def order1 : OrderItems := ⟨4112, 4, 980, 25000, 15, none⟩

/-- The order queued. -/
def queued : State := coupled.onOffice fun o =>
  { o with queue := [⟨4112, 4, 980, 25000, .make (fun _ => true), none⟩] }

/-- A batch. -/
def batch (n : Nat) : Batch := ⟨n, 55, .h35, 0, 11800, [1], 1000, 1180, ⟨100, 3600⟩, 0, 60⟩

/-! ## The step's outcome, in the terms of hypotheses -/

theorem ok_of {e : Except α β} (h : e.toBool = true) : ∃ x, e = .ok x := by
  cases e with
  | ok x => exact ⟨x, rfl⟩
  | error _ => cases h

theorem error_of {e : Except α β} (h : e.toBool = false) : ∃ c, e = .error c := by
  cases e with
  | ok _ => cases h
  | error c => exact ⟨c, rfl⟩

theorem some_of {x : Option α} (h : x.isSome = true) : ∃ a, x = some a := Option.isSome_iff_exists.mp h

/-! ## Well-formedness: one ill-formed command for each check -/

theorem test_wf_fields :
    [Instr.setClock 1#8 65536 0, .setClock 1#8 0 4294967296, .configure 1#8 256 0 0 0, .readConfiguration 1#8 0 256 0,
      .closeStation 1#8 256, .park 1#8 256, .unpark 1#8 256, .authoriseHose 1#8 256 0 0 none none none,
      .authoriseHose 1#8 0 65536 0 none none none, .authoriseHose 1#8 0 0 (2 ^ 64) none none none,
      .authoriseHose 1#8 0 0 0 (some (2 ^ 32)) none none, .authoriseHose 1#8 0 0 0 none none (some 65536),
      .authoriseByOrder 1#8 (2 ^ 32) 0, .stopHose 1#8 256, .hoseStatus 1#8 256, .armDispenser 1#8 1 256,
      .addAllowance 1#8 65536 0, .suspend 1#8 65536, .resume 1#8 65536, .delete 1#8 65536,
      .readCredential 1#8 65536, .withdrawOrder 1#8 (2 ^ 32), .readQueue 1#8 256, .readTickets 1#8 (2 ^ 32),
      .releaseTickets 1#8 (2 ^ 32), .readBatches 1#8 (2 ^ 32), .releaseBatches 1#8 (2 ^ 32), .isolateBank 1#8 256,
      .restoreBank 1#8 256, .compressorEnable 1#8 256, .compressorDisable 1#8 256, .compressorClear 1#8 256,
      .clearStage 1#8 256, .pointStatus 1#8 256 0, .releasePoint 1#8 0 256, .ackEvent 1#8 256 0,
      .batchTimerExpiry (2 ^ 32)].all (fun i => !i.wf) = true := by decide +kernel

theorem test_wf_records :
    (Instr.appendOrder 1#8 { order1 with credIndex := 65536 }).wf = false ∧
    (Instr.spliceOrder 1#8 { order1 with deadline := some (65536, 0) } 0).wf = false ∧
    (Instr.spliceOrder 1#8 order1 256).wf = false ∧
    (Instr.loadCredential 1#8 0 ⟨0, 65536, 0, 0, 1, 0, none, none, none, none⟩ 0).wf = false ∧
    (Instr.loadCredential 1#8 0 ⟨0, 0, 0, 0, 1, 0, none, none, none, some 65536⟩ 0).wf = false ∧
    (Instr.loadTariff 1#8 (List.replicate 31 ⟨0, 0, 0, 0, 0, 0, 0, 0, 0⟩)).wf = false ∧
    (Instr.loadTariff 1#8 [⟨65536, 0, 0, 0, 0, 0, 0, 0, 0⟩]).wf = false ∧
    (Instr.vehicleFrame .h1A ⟨0, 256, 0, 0, 0, 0, 0⟩).wf = false := by decide +kernel

theorem test_wf_points :
    (Instr.drivePoint 1#8 0xD1 0 256).wf = false ∧ (Instr.drivePoint 1#8 0xD1 6 256).wf = true ∧
    (Instr.rawLevel .fd1 2).wf = false ∧ (Instr.rawLevel .caGd 2).wf = true ∧ (Instr.rawLevel .caGd 3).wf = false ∧
    (Instr.analogSample .ambTt true 65536).wf = false ∧ (Instr.analogSample .supPt true 65536).wf = true ∧
    (Instr.meterReport .d1 (2 ^ 32) false).wf = false ∧ (Instr.observedReport (.prv .d1) 2).wf = false ∧
    (Instr.observedReport (.pcv .d1) 80000).wf = true := by decide +kernel

/-! ## The worked cases of the manual -/

/-- 01: the state of charge of a car tank, of a cold bus tank, and of a bus tank at its end (06). -/
theorem test_soc_worked :
    (gasD 65000 3300, gasN 65000 3300, soc .h70 65000 3300) = (4502, 946210, 861) ∧
    (gasD 38000 2830, gasN 38000 2830, soc .h35 38000 2830) = (3533, 704887, 1000) ∧
    (gasN 38150 3210, soc .h35 38150 3210) = (638620, 981) ∧ soc .h35 10900 2950 = 348 := by decide

/-- 01: the usable inventory of a HIGH bank. -/
theorem test_inventory_worked :
    gasMass 92000 3080 3000 = 139952 ∧ gasMass 45000 3080 3000 = 83679 ∧ usableInventory 92000 3080 3000 45000 = 56273 := by
  decide

/-- 09: the worked amounts, and the amounts of the worked batch. -/
theorem test_amounts_worked :
    billAmount 13500 4812 = 6496 ∧ billAmount 13500 5184 = 6998 ∧ billAmount 13500 5185 = 7000 ∧
    billAmount 11800 21400 = 25252 ∧ billAmount 11800 18960 = 22373 ∧ billAmount 11800 20150 = 23777 ∧
    billAmount 11800 9870 = 11647 ∧ billAmount 12400 15300 = 18972 ∧ billAmount 11800 24880 = 29358 := by decide

/-- 08: the bill of bus 5311, its covered part and its shortfall. -/
theorem test_bill_worked : (bill 11800 18649 22000).amount = 22006 ∧ (bill 11800 18649 22000).covered = 22000 := by
  decide +kernel

/-- 05: the worked ramp: its rates, its end pressures and its targets. -/
theorem test_ramp_worked :
    ambientBand 3092 = 5 ∧ effectiveRate (rateEntry .h70 5 .t40) 100 .comm = 260 ∧
    effectiveRate (rateEntry .h70 5 .t30) 100 .comm = 160 ∧ effectiveRate (rateEntry .h70 5 .t30) 100 .lost = 128 ∧
    effectiveRate (rateEntry .h70 5 .t40) 90 .noncomm = 187 ∧ rateEntry .h70 5 .t20 = 0 ∧
    endPressure .comm .h70 5 = 87500 ∧ endPressure .lost .h70 5 = 80000 ∧ endPressure .lost .h35 5 = 40000 ∧
    12400 + 260 * 60000 / 1000 = 28000 := by decide

/-- 03: the worked afternoon: bands, classes, and the walk of the list as the capacity falls. -/
theorem test_walk_worked :
    ambientBand 3127 = 5 ∧ ambientBand 3134 = 6 ∧ stageCapacity 5 * 3 = 36 ∧ stageCapacity 6 * 2 = 18 ∧
    classOf (2732 - 318) = .t30 ∧ classOf (2732 - 220) = .t20 ∧ classOf (2732 - 340) = .t40 ∧
    (let r := fun (w : Requester) (c : RequestClass) (n : Nat) => (⟨w, c, n, false⟩ : Request)
     let list := [r (.disp .d1) .fill 12, r (.disp .d3) .fill 8, r (.comp .c1) .compressor 6, r (.disp .d4) .standby 3]
     (walk 36 list).map (·.granted) = [true, true, true, true] ∧
     (walk 27 list).map (·.granted) = [true, true, true, false] ∧
     (walk 18 list).map (·.granted) = [true, false, true, false]) := by decide +kernel

/-- 02: at the switch timer the fill takes B3, C1 is pre-empted and turns to B2, and five notices are raised in order. -/
theorem test_bank_switch_worked :
    let t := (after (.switchTimerExpiry .d1) (filling .filling)).plant
    let none4 : IsoCauses := ⟨false, false, false, false⟩
    (t.sessions.get .h1A).bank = some .b3 ∧
    t.notices = [.bankState .b2 .idle none4, .bankState .b3 .drawn none4, .compressorState .c1 .unloaded,
      .bankState .b2 .filling none4, .compressorState .c1 (.loaded .b2)] := by decide +kernel

/-- R185: the check of the nine bytes "123456789" under this polynomial and start. -/
theorem test_check : crc16 [0x31#8, 0x32#8, 0x33#8, 0x34#8, 0x35#8, 0x36#8, 0x37#8, 0x38#8, 0x39#8] = 0x29B1#16 := by
  decide +kernel

/-- R185, R190: SET CLOCK to day 1 and second 2 with tag 5, byte by byte up to its check. -/
theorem test_frame_bytes :
    (linkFrame 0x02 5#8 [0#8, 1#8, 0#8, 0#8, 0#8, 2#8]).take 11 =
      [0x7E#8, 0#8, 8#8, 0x02#8, 5#8, 0#8, 1#8, 0#8, 0#8, 0#8, 2#8] ∧
    parse 0x02 5#8 [0#8, 1#8, 0#8, 0#8, 0#8, 2#8] = .request (.setClock 5#8 1 2) := by decide +kernel

/-- 10: DRIVE POINT of D2.PRV while D2 is ACTIVE is stored; at PARK, D2 being quiet, it is applied. -/
theorem test_stored_drive_worked :
    let s := after (.drivePoint 1#8 0xD2 7 1) reset
    let t := after (.park 2#8 2) s
    (s.plant.outs.get (.prv .d2)).commanded = .position false ∧ s.office.replies.map (·.status) = [.okStored] ∧
    (t.plant.outs.get (.prv .d2)).commanded = .position true ∧ t.plant.notices = [.dispenserParked .d2] := by
  decide +kernel

/-- 08: the hold of bus 5310, the smaller of what remains and the cap. -/
theorem test_hold_worked : ({ entry .fleet 62000 (some 5) with amountCap := some 40000 } : Cred).holdFor none = 40000 := by
  decide +kernel

/-- R176: OPEN STATION on a clock never set is refused with CLOCK_UNSET. -/
theorem test_open_unset :
    (after (.openStation 1#8) reset).office.replies = [⟨0x05, 1#8, .clockUnset, false, []⟩] := by decide +kernel

/-- R187: an unknown kind and a body of a wrong length are answered so. -/
theorem test_link_refusals :
    (after (.receiveFrame (linkFrame 0x3F 9#8 [])) reset).office.replies = [⟨0x3F, 9#8, .unknownRequest, false, []⟩] ∧
    (after (.receiveFrame (linkFrame 0x05 9#8 [0#8])) reset).office.replies = [⟨0x05, 9#8, .badLength, false, []⟩] := by
  decide +kernel

/-- Nothing spells a command as a word of the table (assumption 1). -/
theorem test_no_words : decodeTableWord 16 5 = none ∧ reset.withFetchWord 16 5 = reset := ⟨rfl, rfl⟩

/-! ## Witnesses: for each statement with hypotheses, a state and operands that meet them, clause by clause -/

theorem witness_GasStages :
    gasN 33 2000 * 1000 < gasNref .h70 ∧ gasNref .h70 ≤ gasN 70000 2880 ∧ gasNref .h35 ≤ gasN 100000 2000 ∧
    54054 ≤ 54055 ∧ 54055 < 54056 := by decide

theorem witness_AmountRounds : (999999 : Nat) ≤ 999999 ∧ (200000 : Nat) ≤ 200000 ∧ (0 = 0 ∨ (5 : Nat) = 0) := by decide

/-- B5 and B6 rank alike for a bus that starts in the BUS tier. -/
def twins : State := (filling .filling).onPlant fun p =>
  { p with banks := p.banks.set .b6 (bank .bus 50000 42000 46000 none none false) }

theorem witness_BankAnswerRanks :
    (filling .filling).plant.bankAnswer .d1 .h70 59000 .mid = some .b3 ∧
    twins.plant.bankAnswer .d3 .h35 20000 .bus = some .b5 ∧ twins.plant.eligible .d3 .h35 20000 .b6 = true ∧
    BankId.b6 ≠ .b5 ∧ twins.plant.ranksBefore .h35 .bus .b5 .b6 = false := by decide +kernel

theorem witness_StepTakesFront :
    ({ reset with pending := [.setHold 1#8, .powerOn] } : State).pending = .setHold 1#8 :: [.powerOn] := rfl

theorem witness_IdleMillisecond :
    let s := ready.onOffice fun o => { o with clockMs := 998 }
    s.pending = [] ∧ s.office.framer = [] ∧ s.office.clock = some ⟨100, 3600⟩ ∧ s.office.clockMs < 999 := by decide +kernel

theorem witness_FrameIsHandled :
    1 ≤ 1 ∧ 0x3F < 0x40 ∧ (List.replicate 1024 0#8).length ≤ 1024 ∧ reset.office.framer = [] := by decide +kernel

/-- The widest LOAD TARIFF, and every optional item at its top. -/
theorem witness_RequestReadsBack :
    (Instr.loadTariff 1#8 (List.replicate 30 ⟨65535, 0, 0, 0, 0, 0, 0, 0, 2 ^ 32 - 1⟩)).wf = true ∧
    (∃ f, requestFrame (.loadTariff 1#8 (List.replicate 30 ⟨65535, 0, 0, 0, 0, 0, 0, 0, 2 ^ 32 - 1⟩)) = some f) ∧
    (Instr.authoriseHose 255#8 255 65535 (2 ^ 64 - 1) (some (2 ^ 32 - 1)) none (some 65535)).wf = true ∧
    ∃ f, requestFrame (.authoriseHose 255#8 255 65535 (2 ^ 64 - 1) (some (2 ^ 32 - 1)) none (some 65535)) = some f :=
  ⟨by decide +kernel, ⟨_, rfl⟩, by decide +kernel, ⟨_, rfl⟩⟩

theorem witness_LinkRunsRequest :
    (Instr.setHold 7#8).wf = true ∧ requestFrame (.setHold 7#8) = some ⟨0x09, 7#8, []⟩ ∧ reset.office.framer = [] := by
  decide +kernel

theorem witness_FramerDiscards :
    0x7E#8 ∉ 0#8 :: [0x7D#8] ∧
    (let covered := u16 ([5#8] : List Byte).length.succ.succ ++ u8 0x3F ++ [9#8] ++ [5#8]
     65535 < 65536 ∧ 65535 ≠ (crc16 covered).toNat ∧ 0x7E#8 ∉ covered ++ u16 65535) ∧
    (1 < 2 ∧ 1026 < 1027 ∧ 0x7E#8 ∉ u16 1 ∧ 0x7E#8 ∉ u16 1027) ∧
    (0x7E#8 ∉ (linkFrame 0 5#8 []).drop 1 ∧ 0x7E#8 ∉ (linkFrame 0x40 5#8 []).drop 1) ∧
    (let s := reset.onOffice fun o => { o with framer := [0x7E#8, 0#8] }
     s.office.framer = 0x7E#8 :: [0#8] ∧ 0x7E#8 ∉ [0#8]) ∧
    (let s := reset.onOffice fun o => { o with framer := 0x7E#8 :: ([0#8] ++ linkFrame 1 5#8 []) }
     s.office.framer = 0x7E#8 :: ([0#8] ++ linkFrame 1 5#8 [])) ∧ reset.office.framer = [] := by decide +kernel

/-- R186: a sound STATION STATUS behind a marker and a byte of noise is received at the gap, and not before it. -/
theorem test_rescan_at_gap :
    let s := after (.receiveFrame (0x7E#8 :: ([0#8] ++ linkFrame 1 5#8 []))) reset
    let t := after .frameGapTimeout s
    s.office.replies = [] ∧ t.office.replies.map (·.tag) = [5#8] ∧ t.office.counts.gap = 1 ∧ t.office.framer = [] := by
  decide +kernel

theorem witness_RequestOverrun : requestFrame (.setHold 1#8) = some ⟨0x09, 1#8, []⟩ ∧ ¬ crowded.room := by decide +kernel

/-- Notices waiting, as many as stated, and the flag down. -/
def noticed (n : Nat) (s : State) : State := s.onPlant fun p => { p with notices := List.replicate n (.ticketReady 1) }

theorem witness_TransmitOrder :
    (crowded.office.replies = ⟨1, 0#8, .ok, false, []⟩ :: List.replicate 7 ⟨1, 0#8, .ok, false, []⟩ ∧
     (let s := reset.onPlant fun p => { p with notices := [.ticketReady 1] }
     s.office.replies = [] ∧ s.plant.notices = .ticketReady 1 :: []) ∧
     reset.office.replies = [] ∧
     reset.plant.notices = [] ∧
     ((noticed 31 reset).plant.notices.length < 32 ∧ ¬ (noticed 32 reset).plant.notices.length < 32)) ∧
    (∃ t, exec (.setHold 1#8) (noticed 32 reset) = .next t) ∧
    (let s := reset.onPlant fun p => { p with lost := true }
     (∃ t, exec (.setHold 1#8) s = .next t) ∧ s.plant.lost = true) ∧
    ((ready.room ∧ ready.office.clock ≠ none ∧ ready.office.tariff ≠ none ∧ ready.plant.trip = false ∧
      ready.plant.mode = .closed) ∧
     (coupled.room ∧ closeKindOf 1 = some .stop ∧ coupled.plant.mode = .opened) ∧
     (reset.room ∧ reset.plant.conditionsFormed ∧ reset.plant.hold = false) ∧
     ((filling .filling).room ∧ hoseOf 0x1A = some .h1A ∧ (filling .filling).plant.present .h1A = true ∧
      ((filling .filling).plant.sessState .h1A).running = true) ∧
     (let s := (noticed 32 reset).onPlant fun p => p.setSwitch .fd1 ⟨some 0, some 1, 49, 50, .rising, false, 255⟩
     (s.plant.switches.get .fd1).level = some 0 ∧ (s.plant.switches.get .fd1).candidate = some 1 ∧
     (s.plant.switches.get .fd1).edge.meets 0 1 = true ∧ (s.plant.switches.get .fd1).flag = false ∧
     s.plant.passes SwitchPoint.fd1.hose = true)) :=
  ⟨by decide +kernel, ⟨_, rfl⟩, ⟨⟨_, rfl⟩, by decide +kernel⟩, by decide +kernel⟩

theorem witness_ReadsAnswer :
    reset.room ∧ ¬ (0x18 = 0 ∧ 0x4B = 0xF0) ∧ settingOf 0x18 0x4B 0 = some (.travel (.hv .h4B)) ∧
    reset.plant.settingAbsent (.travel (.hv .h4B)) = false ∧ hoseOf 0x4B = some .h4B ∧ 511 < 512 ∧ 1 ≤ 48 ∧
    pointOf 0xF0 4 = some (.switch .caGd) ∧ reset.plant.pointAbsent (.switch .caGd) = false ∧
    settingOf 0x05 0xF0 1 = none ∧ settingOf 0x18 0x2B 0 = some (.travel (.hv .h2B)) ∧
    (filling .filling).plant.settingAbsent (.travel (.hv .h2B)) = true ∧ hoseOf 0x1C = none ∧ 512 ≤ 512 ∧ 48 < 49 ∧
    pointOf 0xF0 255 = none ∧ pointOf 0x2B (Point.switch (.hol .h2B)).bytes.2 = some (.switch (.hol .h2B)) ∧
    (filling .filling).plant.pointAbsent (.switch (.hol .h2B)) = true := by decide +kernel

theorem witness_OpenStation :
    reset.room ∧ reset.office.clock = none ∧
    (let s := ready.onOffice fun o => { o with tariff := none }
     s.office.clock ≠ none ∧ s.office.tariff = none) ∧
    ready.office.clock ≠ none ∧ ready.office.tariff ≠ none ∧ ready.plant.trip = false ∧ ready.plant.mode = .closed ∧
    coupled.plant.mode = .opened ∧
    (let s := ready.onPlant fun p => { p with mode := .closing }
     s.plant.mode = .closing ∧ s.plant.trip = false) ∧
    (let s := ready.onPlant fun p => { p with trip := true }
     s.office.clock ≠ none ∧ s.office.tariff ≠ none ∧ s.plant.trip = true) := by decide +kernel

theorem witness_ParkAndUnpark :
    reset.room ∧ (0 = 0 ∨ 4 < 0) ∧ (5 = 0 ∨ 4 < 5) ∧
    dispOf 1 = some .d1 ∧ dispOf 4 = some .d4 ∧ (reset.plant.disps.get .d4).park = .active ∧
    reset.plant.parted .d4 = false ∧
    (let s := reset.onPlant (modDisp .d4 fun c => { c with park := .parked })
     (s.plant.disps.get .d4).park ≠ .active ∧ s.plant.parted .d4 = false) ∧
    (reset.onPlant fun p => p.setSwitch (.brk .h4B) ⟨some 1, none, 0, 50, .rising, true, 1⟩).plant.parted .d4 = true := by
  decide +kernel

theorem filling_isolatedEmpty : (filling .filling).plant.isolatedEmpty :=
  BankId.forall_of_all (by decide +kernel)

theorem filling_fillersLoad : (filling .filling).plant.fillersLoad := fun k =>
  CompId.forall_of_all (P := fun c => ((filling .filling).plant.banks.get k).filler = some c ↔
    ((filling .filling).plant.comps.get c).state = .loaded k) (by cases k <;> decide +kernel)

/-- At most one hose of each dispenser flows, whatever the state of the session of 1A. -/
theorem filling_oneActive (st : SessionState) : (filling st).plant.oneActive := by
  intro d
  have h : ((filling st).plant.sessState d.hoseB).flowing = false := by cases d <;> rfl
  rw [h, Bool.and_false]

theorem tripped_conditions : tripped.plant.conditionsFormed := by decide +kernel

/-- HOLD true under host HOLD alone, hose 1A in a given state, first of the queue of its dispenser. -/
def held (st : SessionState) : State := (filling st).onPlant fun p =>
  modSession .h1A (fun x => { x with queuePos := some .first }) { p with hostHold := true, hold := true }

/-- Hose 1A QUEUED and its pressure INVALID, with hose 1B QUEUED behind it. -/
def heldTwo : State := (held .queued).onPlant fun p =>
  (modSession .h1B (fun x => { x with state := .queued, queuePos := some .second }) p).setAnalog (.pt .h1A) ⟨none, false, 0⟩

/-- The clause of RELEASE HOLD for the first QUEUED hose, met at hose 1A. -/
def queuedFirst (p : Plant) : Prop :=
  p.sessState .h1A = .queued ∧ (p.sessions.get .h1A).queuePos = some .first ∧
  (p.sessState Hose.h1A.other).flowing = false ∧
  ¬ (p.sessState Hose.h1A.other = .queued ∧ (p.sessions.get Hose.h1A.other).queuePos = some .first) ∧
  p.mode = .opened ∧ p.trip = false ∧ (p.disps.get Hose.h1A.disp).park = .active

theorem witness_HostHold :
    (reset.room ∧ reset.plant.conditionsFormed) ∧
    ((filling .filling).room ∧ (filling .filling).plant.conditionsFormed ∧ (filling .filling).plant.hold = false ∧
      (filling .filling).plant.fills .d1 ramp ∧ ramp.pauses = .empty ∧
      (filling .precheck).plant.conditionsFormed ∧ (filling .precheck).plant.sessState .h1A = .precheck) ∧
    ((held .filling).room ∧ (held .filling).plant.conditionsFormed ∧ (held .filling).plant.hold = true ∧
      ({ (held .filling).plant with hostHold := false } : Plant).holdSource = false ∧
      (held .filling).plant.fills .d1 ramp) ∧
    (queuedFirst (held .queued).plant ∧ ((held .queued).plant.analogs.get (.pt .h1A)).valid = true) ∧
    (queuedFirst heldTwo.plant ∧ (heldTwo.plant.analogs.get (.pt .h1A)).valid = false ∧
      heldTwo.plant.sessState Hose.h1A.other = .queued ∧ heldTwo.plant.conditionsFormed ∧
      ({ heldTwo.plant with hostHold := false } : Plant).holdSource = false) ∧
    (filling .filling).plant.oneActive ∧ (held .queued).plant.oneActive ∧ heldTwo.plant.oneActive :=
  ⟨by decide +kernel, by decide +kernel, by decide +kernel, by unfold queuedFirst; decide +kernel,
    by unfold queuedFirst; decide +kernel, filling_oneActive _, Disp.forall_of_all (by decide +kernel),
    Disp.forall_of_all (by decide +kernel)⟩

/-- WAIT_PRECOOL with a measured class for which the table gives no rate. -/
def warm : State := (filling .waitPrecool).onPlant fun p => { p with measured := p.measured.set .d1 .none }

theorem witness_CloseStation :
    (coupled.room ∧
     coupled.plant.mode = .opened ∧
     reset.plant.mode ≠ .opened ∧
     closeKindOf 0 = some .finish ∧
     closeKindOf 1 = some .stop ∧
     closeKindOf 2 = none ∧
     1 < 2 ∧
     (coupled.plant.sessState .h1A).early = true ∧
     coupled.plant.sessState .h1B = .idle ∧
     (ticketed .queued).plant.mode = .opened ∧
     ((ticketed .queued).plant.sessState .h1A).early = true ∧
     (ticketed .ending).plant.sessState .h1A = .ending ∧
     (filling .precheck).plant.sessState .h1A = .precheck ∧
     (filling .filling).plant.mode = .opened ∧
     (filling .filling).room ∧
     (filling .filling).plant.fills .d1 ramp ∧
     (warm.plant.sessState .h1A = .waitPrecool ∧ warm.plant.readyToFlow .h1A = false) ∧
     ((filling .waitPrecool).plant.sessState .h1A = .waitPrecool ∧
      (filling .waitPrecool).plant.readyToFlow .h1A = true ∧ ((filling .waitPrecool).plant.sessState .h1A).running = true)) ∧
    (filling .filling).plant.oneActive :=
  ⟨by decide +kernel, filling_oneActive _⟩

/-- Hose 1A in a given state, and a level awaiting confirmation at a switch. -/
def alarmed (st : SessionState) (x : SwitchPoint) (l : Nat) : State := (filling st).onPlant fun p =>
  p.setSwitch x { p.switches.get x with candidate := some l }

/-- SET TRIP; then a level of each kind of point: those that assert a TRIP source, those that assert none, and a detector's
level 1. -/
theorem witness_SetTripStopsAll :
    (filling .filling).room ∧ (filling .filling).plant.trip = false ∧ (filling .filling).plant.isolatedEmpty ∧
    (tripped.room ∧ tripped.plant.trip = true ∧ tripped.plant.conditionsFormed) ∧
    ([(SwitchPoint.fd1, 1), (.esd .d4, 1), (.gd .d1, 2), (.caGd, 2), (.fd2, 0), (.gd .d2, 1), (.caGd, 0)].all fun e =>
      decide (((alarmed .filling e.1 e.2).plant.switches.get e.1).candidate = some e.2)) = true ∧
    (let p := (alarmed .filling .caGd 1).plant
     p.conditionsFormed ∧ p.hold = false ∧ p.trip = false ∧ p.fills .d1 ramp ∧ ramp.pauses = .empty ∧
     (alarmed .precheck .caGd 1).plant.conditionsFormed ∧ (alarmed .precheck .caGd 1).plant.sessState .h1A = .precheck) ∧
    ((alarmed .authorised .fd1 1).plant.sessState .h1A = .authorised ∧
      (alarmed .coupled (.gd .d1) 2).plant.sessState .h1A = .coupled ∧
      ((alarmed .filling .fd1 1).plant.sessState .h1A).running = true) ∧
    (alarmed .filling .fd1 1).plant.isolatedEmpty ∧ (alarmed .filling .fd1 1).plant.oneActive :=
  ⟨by decide +kernel, by decide +kernel, filling_isolatedEmpty, ⟨by decide +kernel, by decide +kernel,
    tripped_conditions⟩,
    by decide +kernel, by decide +kernel, by decide +kernel,
    fun k => filling_isolatedEmpty k, fun d => filling_oneActive .filling d⟩

theorem witness_ResetTrip :
    tripped.room ∧ tripped.plant.trip = true ∧ tripped.plant.fieldTrip = false ∧ reset.plant.trip = false ∧
    (let s := tripped.onPlant fun p => p.setSwitch .fd1 ⟨some 1, none, 0, 50, .rising, true, 1⟩
     s.plant.trip = true ∧ s.plant.fieldTrip = true) := by decide +kernel

theorem filling_absentIdle : (filling .filling).plant.absentIdle := Hose.forall_of_all (by decide +kernel)

theorem witness_Restart : (filling .filling).room ∧ (filling .filling).plant.absentIdle :=
  ⟨by decide +kernel, filling_absentIdle⟩

/-- What hose 1A is asked to be authorised with. -/
def ask : AuthAsk := ⟨some (7, 9), none, none, none, 980⟩

/-- Hose 1A coupled at an OPEN station whose table holds one entry, with so many tickets open. -/
def asked (c : Cred) (tickets : Nat) : State := coupled.onOffice fun o =>
  { o with creds := [(3, c)], openTickets := List.replicate tickets ticket1 }

/-- No condition of WRONG_STATE holds, and the entry is found. -/
def found (c : Cred) (tickets : Nat) : Bool :=
  let s := asked c tickets
  decide (s.plant.grade.get .h1A = some .h70 ∧ s.plant.mode = .opened ∧ s.plant.trip = false ∧
    (s.plant.disps.get Hose.h1A.disp).park = .active ∧ s.plant.sessState .h1A = .coupled ∧
    s.office.findCred ask = some (3, c))

/-- One case for each refusal of R58 and R139, in their order, and for an authorisation that passes. -/
theorem witness_AuthorisationChecks :
    ((filling .filling).plant.grade.get .h2B = none ∧
     (reset.plant.grade.get .h1A = some .h70 ∧ reset.plant.mode ≠ .opened) ∧
     (found (entry .retail 100 none) 0 ∧
       (asked (entry .retail 100 none) 0).office.findCred { ask with key := some (7, 8) } = none) ∧
     (let c := { entry .retail 100 none with state := .suspended, expiryDay := some 99 }
     found c 0 ∧ c.state = .suspended) ∧
     (let c := { entry .retail 100 none with expiryDay := some 99, allows70 := false }
     found c 0 ∧ c.state = .active ∧ c.expired (asked c 0).office.clock = true) ∧
     (let c := { entry .retail 99 none with expiryDay := some 100, allows70 := false }
     found c 0 ∧ c.expired (asked c 0).office.clock = false ∧ c.allows70 = false) ∧
     (let c := entry .retail 99 none
     found c 256 ∧ c.allows70 = true ∧ c.kind ≠ .service ∧ c.holdFor ask.preset < 100) ∧
     (let c := entry .retail 100 none
     found c 256 ∧ ¬ c.holdFor ask.preset < 100 ∧
     ¬ (asked c 256).office.openTickets.length + (asked c 256).office.finalised.length < 256) ∧
     (let c := entry .retail 100 none
     found c 255 ∧ (asked c 255).office.openTickets.length + (asked c 255).office.finalised.length < 256)) ∧
    (∃ x, authCheck .h1A ask coupled = .ok x) ∧
    (∃ r : Order, (orderAsk r).order = some r ∧ r.credIndex = 4) ∧
    (ask.order = none ∧
     ask.key = some (7, 9)) :=
  ⟨by decide +kernel, ok_of (by decide +kernel), ⟨⟨4112, 4, 980, 25000, .make (fun _ => true), none⟩, rfl, rfl⟩, by
    decide +kernel⟩

/-- Hose 1A about to be authorised: its state and that of hose 1B, HOLD, and the validity of its pressure. -/
def starting (st other : SessionState) (hold valid : Bool) : State := coupled.onPlant fun p =>
  let p := modSession .h1B (fun x => { x with state := other }) (modSession .h1A (fun x => { x with state := st }) p)
  ({ p with hold := hold } : Plant).setAnalog (.pt .h1A) ⟨some 5000, valid, 0⟩

/-- A case for each state that an authorisation leads to. -/
theorem witness_AuthoriseHose :
    (coupled.room ∧ hoseOf 0x1A = some .h1A) ∧
    ask = ⟨some (7, 9), none, none, none, clamp 500 1000 ((none : Option Nat).getD 980)⟩ ∧
    (∃ c, authCheck .h1A ask reset = .error c) ∧
    ([(SessionState.lifted, SessionState.idle, false, true), (.coupled, .lifted, false, true), (.coupled, .idle, false, false),
      (.coupled, .queued, true, true), (.coupled, .filling, false, true), (.coupled, .ending, true, true)].all fun e =>
        (authCheck .h1A ask (starting e.1 e.2.1 e.2.2.1 e.2.2.2)).toBool) = true ∧
    ∃ x, authCheck .h1A ask coupled = .ok x :=
  ⟨by decide +kernel, rfl, error_of (by decide +kernel), by decide +kernel, ok_of (by decide +kernel)⟩

theorem witness_AuthoriseByOrder :
    queued.room ∧ hoseOf 0x1C = none ∧ hoseOf 0x4B = some .h4B ∧ findOrder 4112 reset.office.queue = none ∧
    ∃ r, findOrder 4112 queued.office.queue = some (0, r) ∧ (∃ x, authCheck .h1A (orderAsk r) queued = .ok x) ∧
      ∃ c, authCheck .h1B (orderAsk r) queued = .error c :=
  ⟨by decide +kernel, by decide +kernel, by decide +kernel, by decide +kernel,
    ⟨4112, 4, 980, 25000, .make (fun _ => true), none⟩, by decide +kernel, ok_of (by decide +kernel),
    error_of (by decide +kernel)⟩

theorem witness_StopHose :
    (hoseOf 0x19 = none ∧
     hoseOf 0x2B = some .h2B ∧
     (filling .filling).plant.grade.get .h2B = none ∧
     hoseOf 0x1A = some .h1A ∧
     (filling .filling).plant.present .h1A = true ∧
     reset.plant.sessState .h1A = .idle ∧
     (ticketed .ending).plant.sessState .h1A = .ending ∧
     (ticketed .authorised).plant.sessState .h1A = .authorised ∧
     (ticketed .queued).plant.sessState .h1A = .queued) ∧
    (filling .filling).plant.oneActive ∧
    (((filling .precheck).plant.sessState .h1A).running = true ∧
     ((filling .filling).plant.sessState .h1A).running = true) :=
  ⟨by decide +kernel, filling_oneActive _, by decide +kernel⟩

/-- Hose 1A SETTLED after a PRECHECK, its nozzle holder and coupling at the levels stated, the keep-cold interval running. -/
def stowing (holder coupling keep : Nat) : State := (filling .settled).onPlant fun p =>
  let p := (p.setSwitch (.hol .h1A) ⟨some holder, none, 0, 50, .both, false, 0⟩).setSwitch (.cpl .h1A)
    ⟨some coupling, none, 0, 50, .both, false, 0⟩
  { p with keepT := p.keepT.set .d1 (some 5), cfg := { p.cfg with keepCold := keep } }

theorem witness_ArmAndKeepCold :
    reset.room ∧ (0 = 0 ∨ 4 < 0) ∧ (5 = 0 ∨ 4 < 5) ∧
    (let p := { reset.plant with grade := (reset.plant.grade.set .h1A none).set .h1B none }
     p.grade.get Disp.d1.hoseA = none ∧ p.grade.get Disp.d1.hoseB = none) ∧
    dispOf 1 = some .d1 ∧ reset.plant.dispPresent .d1 = true ∧ (reset.plant.disps.get .d1).park = .active ∧
    ((reset.onPlant (modDisp .d1 fun c => { c with park := .parking })).plant.disps.get .d1).park ≠ .active ∧
    (let s := reset.onPlant fun p => { p with armT := p.armT.set .d1 (some 60000), keepT := p.keepT.set .d1 (some 0) }
     s.plant.armT.get .d1 ≠ none ∧ s.plant.keepT.get .d1 ≠ none ∧ s.plant.sessState .h1A ≠ .settled ∧
     s.plant.sessState .h1B ≠ .settled) ∧
    reset.plant.armT.get .d1 = none ∧ reset.plant.keepT.get .d1 = none ∧
    (let p := (stowing 1 0 10).plant
     p.keepT.get .d1 ≠ none ∧ p.sessState .h1A = .settled ∧
     (p.deasserted (.hol .h1A) && p.deasserted (.cpl .h1A)) = false ∧ p.sessState .h1B ≠ .settled) ∧
    (let p := (stowing 0 0 0).plant
     p.sessState .h1A = .settled ∧ (p.deasserted (.hol .h1A) && p.deasserted (.cpl .h1A)) = true) := by decide +kernel

/-- R47, R74: with a keep-cold time of 0 the return to IDLE ends the interval that ran. -/
theorem test_keep_cold_of_zero :
    (settledToIdle .h1A (stowing 0 0 0).plant).keepT.get .d1 = none ∧
    (settledToIdle .h1A (stowing 0 0 60).plant).keepT.get .d1 = some 3600000 := by decide +kernel

/-- A FLEET description that can be loaded. -/
def loadable : CredItems := ⟨1, 7, 77, 1, 3, 3, some 55, none, none, none⟩

/-- The tests that a description fails. -/
def barred (x : CredItems) : Bool :=
  decide ((x.state ≠ 1 ∧ x.state ≠ 2) ∨ 2 < x.kind ∨ x.grades = 0 ∨ 3 < x.grades ∨ 3 < x.priceClass ∨
    (x.kind = 1 ∧ x.account = none))

theorem witness_LoadCredential :
    (512 ≤ 512 ∧
     511 < 512) ∧
    (∃ c, loadedCred loadable 100000001 = some c) ∧
    (loadedCred { loadable with account := none } 0 = none ∧
     loadedCred { loadable with grades := 4 } 0 = none ∧
     hasOpenFill 511 ready.office.creds = false ∧
     hasOpenFill 3 (ticketed .ending).office.creds = true) ∧
    (∀ c, loadedCred loadable 0 = some c → keyElsewhere 511 c ready.office.creds = false) ∧
    (∀ c, loadedCred { loadable with token := 9 } 0 = some c → keyElsewhere 511 c ready.office.creds = true) ∧
    (([{ loadable with state := 0 }, { loadable with state := 3 }, { loadable with kind := 3 },
       { loadable with grades := 0 }, { loadable with grades := 4 }, { loadable with priceClass := 4 },
       { loadable with account := none }].all barred ∧
      ¬ barred loadable ∧ ¬ barred { loadable with state := 2, kind := 2, account := none }) ∧
     (let changed := fun (x : CredItems) (a : Nat) => 100000000 < a ∨
       x.massLimit.any (fun v => 200000 < v) ∨ x.amountCap.any fun v => 100000000 < v
     changed loadable 100000001 ∧ changed { loadable with massLimit := some 200001 } 0 ∧
     changed { loadable with amountCap := some 100000001 } 0 ∧
     ¬ changed { loadable with massLimit := some 200000, amountCap := some 100000000 } 100000000)) := by
  refine ⟨by decide +kernel, some_of (by decide +kernel), by decide +kernel, ?_, ?_, by decide +kernel⟩ <;>
    (intro c h; cases h; decide +kernel)

theorem witness_CredentialEdits :
    ready.room ∧ credAt 511 ready.office.creds = none ∧ credAt 3 ready.office.creds = some (entry .retail 9999 none) ∧
    (entry .retail 9999 none).loaded + (99990001 : Nat) ≤ 100000000 ∧
    100000000 < (entry .retail 9999 none).loaded + (99990002 : Nat) ∧ (entry .retail 9999 none).loaded ≤ 100000000 ∧
    (entry .retail 9999 none).openCount = 0 ∧ 0 < ((entry .retail 9999 none).takeHold 500).openCount := by decide +kernel

/-- 48 orders waiting. -/
def fullQueue : State := ready.onOffice fun o =>
  { o with queue := (List.range 48).map fun n => ⟨n + 1, 4, 980, 25000, .make (fun _ => true), none⟩ }

theorem witness_DepotQueue :
    (∃ c, orderCheck order1 reset = .error c) ∧ (∃ r, orderCheck order1 ready = .ok r) ∧
    findOrder 4113 queued.office.queue = none ∧
    findOrder 4112 queued.office.queue = some (0, ⟨4112, 4, 980, 25000, .make (fun _ => true), none⟩) ∧
    (16 ≤ { order1 with mask := 16 }.mask ∧ (∃ y, { order1 with deadline := some (101, 86400) }.deadline = some y ∧ 86399 < y.2) ∧
      ∃ y c, { order1 with deadline := some (100, 3599) }.deadline = some y ∧ ready.office.clock = some c ∧
        c.passed ⟨y.1, y.2⟩ = true) ∧
    (order1.busId ≠ 0 ∧ order1.credIndex < 512 ∧ 0 < order1.mask ∧ order1.mask < 16 ∧ order1.deadline = none) ∧
    credAt order1.credIndex reset.office.creds = none ∧
    (∃ c, credAt { order1 with credIndex := 3 }.credIndex ready.office.creds = some c ∧ c.kind ≠ .fleet) ∧
    (∃ c, credAt order1.credIndex queued.office.creds = some c ∧ c.kind = .fleet ∧
      (findOrder order1.busId queued.office.queue).isSome = true) ∧
    (∃ c, credAt order1.credIndex fullQueue.office.creds = some c ∧ c.kind = .fleet ∧
      (findOrder order1.busId fullQueue.office.queue).isSome = false ∧
      fullQueue.office.inService order1.busId = false ∧ 48 ≤ fullQueue.office.queue.length) ∧
    ready.office.queue.length < 48 :=
  ⟨error_of (by decide +kernel), ok_of (by decide +kernel), by decide +kernel, by decide +kernel,
    ⟨by decide, ⟨_, rfl, by decide⟩, ⟨_, _, rfl, rfl, by decide +kernel⟩⟩, by decide, by decide +kernel,
    ⟨_, rfl, by decide +kernel⟩, ⟨_, rfl, by decide +kernel⟩, ⟨_, rfl, by decide +kernel⟩, by decide +kernel⟩

/-- Two periods a day, from minute 0 and from minute 61, with a batch open. -/
def periods : State := ready.onOffice fun o =>
  { o with tariff := some [⟨0, flat, flat⟩, ⟨61, flat, flat⟩], openBatches := [batch 1] }

theorem witness_ClockMoves :
    reset.room ∧ 65535 < 65536 ∧ 86399 < 86400 ∧ 65535 ≤ 65535 ∧ 86399 ≤ 86399 ∧ ready.office.clock = some ⟨100, 3600⟩ ∧
    reset.office.clock = none ∧
    (let start := fun o : Office => o.current.map fun y => y.start
     let new := fun x => start { periods.office with clock := some ⟨100, x⟩ }
     new 3660 ≠ none ∧ new 3660 ≠ start periods.office ∧ new 3659 = start periods.office) ∧
    (let crosses := fun c : Clock => ∃ xs, periods.office.tariff = some xs ∧ ∃ y ∈ xs, y.start * 60 = c.advance.second
     crosses ⟨100, 3659⟩ ∧ crosses ⟨100, 86399⟩ ∧ ¬ crosses ⟨100, 3660⟩) := by
  refine ⟨by decide +kernel, by decide, by decide, by decide, by decide, by decide +kernel, by decide +kernel,
    by decide +kernel, ⟨_, rfl, by decide +kernel⟩, ⟨_, rfl, by decide +kernel⟩, ?_⟩
  rintro ⟨xs, h, y, hy, e⟩
  cases h
  have none_ : ∀ y ∈ [(⟨0, flat, flat⟩ : Period), ⟨61, flat, flat⟩], y.start * 60 ≠ 3661 := by decide +kernel
  exact none_ y hy e

theorem witness_LoadTariff :
    tableOk [] = false ∧ tableOk [⟨0, 1, 1, 1, 1, 1, 1, 1, 1⟩] = true ∧
    tableOk ((List.range 6).map fun n => ⟨n, 1, 1, 1, 1, 1, 1, 1, 1⟩) = true ∧
    tableOk ((List.range 7).map fun n => ⟨n, 1, 1, 1, 1, 1, 1, 1, 1⟩) = false ∧
    tableOk [⟨1, 1, 1, 1, 1, 1, 1, 1, 1⟩] = false ∧
    tableOk [⟨0, 1, 1, 1, 1, 1, 1, 1, 1⟩, ⟨0, 1, 1, 1, 1, 1, 1, 1, 1⟩] = false ∧
    (let given := fun x : PeriodItems => ∀ v ∈ [x.p0, x.p1, x.p2, x.p3, x.p4, x.p5, x.p6, x.p7], v ≤ 999999
     given ⟨0, 1, 1, 1, 1, 1, 1, 1, 999999⟩ ∧ ¬ given ⟨0, 1, 1, 1, 1, 1, 1, 1, 1000000⟩) := by decide +kernel

/-- A finalised ticket of a number. -/
def final (n : Nat) : FinalTicket :=
  ⟨{ ticket1 with number := n }, ⟨⟨100, 3600⟩, 0, 0, 0, 0, 0, .cancelled, none, none, none, none, none, none, none, none,
    false, false, none⟩⟩

/-- An open FLEET ticket of account 55, with the grade, the period and the price of `batch`. -/
def fleet1 : Ticket := { ticket1 with grade := .h35, kind := .fleet, account := some 55 }

/-- Open batches, and so many closed. -/
def batches (open_ : List Batch) (closed : Nat) : Office := { ready.office with
  openBatches := open_, closedBatches := List.replicate closed ⟨batch 99, .count, ⟨100, 3600⟩⟩ }

/-- Eight batches of other accounts. -/
def eight : List Batch := (List.range 8).map fun n => { batch (n + 1) with account := n }

theorem witness_TicketsAndBatches :
    reset.room ∧ (∀ f ∈ reset.office.finalised, f.base.number ≠ 1) ∧
    (let s := reset.onOffice fun o => { o with finalised := [final 1, final 2, final 3] }
     s.office.finalised = [final 1] ++ final 2 :: [final 3] ∧ ∀ g ∈ [final 1], g.base.number ≠ (final 2).base.number) ∧
    (∀ b ∈ reset.office.closedBatches, b.batch.number ≠ 1) ∧
    (let c := fun n => (⟨batch n, .count, ⟨100, 3600⟩⟩ : ClosedBatch)
     let s := reset.onOffice fun o => { o with closedBatches := [c 1, c 2, c 3] }
     s.office.closedBatches = [c 1, c 2] ++ c 3 :: [] ∧ ∀ g ∈ [c 1, c 2], g.batch.number ≠ (c 3).batch.number) ∧
    (ticket1.account = none ∧ fleet1.account = some 55 ∧ fleet1.kind = .fleet) ∧
    ((batches [batch 1] 0).openBatches = [] ++ batch 1 :: [] ∧ (batch 1).account = 55 ∧ (batch 1).grade = fleet1.grade ∧
      (batch 1).periodId = fleet1.periodId ∧ (batch 1).price = fleet1.price ∧
      (batch 1).amount + 498820 ≤ (batches [batch 1] 0).batchLimit ∧
      (batches [batch 1] 0).batchLimit < (batch 1).amount + 498821 ∧ (batch 1).tickets.length + 1 < 12 ∧
      12 ≤ { batch 1 with tickets := List.replicate 11 1 }.tickets.length + 1 ∧
      { batch 1 with periodId := 1 }.periodId ≠ fleet1.periodId) ∧
    ((batches [batch 1] 30).openBatches.length + (batches [batch 1] 30).closedBatches.length < 32 ∧
      ¬ (batches [batch 1] 31).openBatches.length + (batches [batch 1] 31).closedBatches.length < 32) ∧
    ((batches [] 31).openBatches.length < 8 ∧ 8 ≤ (batches eight 23).openBatches.length ∧
      (batches eight 23).openBatches = { batch 1 with account := 0 } :: eight.tail ∧
      (∀ b ∈ eight, b.account ≠ 55) ∧ (∀ c ∈ eight.tail, c.number ≠ (batch 1).number) ∧
      (batches eight 23).openBatches.length + (batches eight 23).closedBatches.length < 32) := by decide +kernel

/-- 09, R159: a ticket that would take the batch above its amount limit closes it with FULL and opens the next. -/
theorem test_batch_full :
    let r := (batches [batch 1] 0).offer fleet1 false 1000 498821
    r.office.closedBatches.map (fun c => (c.batch.number, c.cause)) = [(1, .full)] ∧
    r.office.openBatches.map (·.number) = [1] ∧ r.office.nextBatch = 2 := by decide +kernel

theorem witness_Configure :
    reset.room ∧
    (∀ k, (reset.plant.banks.get k).refill ≤ (reset.plant.banks.get k).maxP) ∧
    (settingOf 0x05 0xF0 1 = none ∧
     settingOf 0x05 0xF0 0 = some .corrUpper ∧
     Setting.corrUpper.listed 1999 = true ∧
     reset.plant.settingAbsent .corrUpper = false ∧
     reset.plant.settingBusy .corrUpper = false ∧
     (settingOf 0x01 0x1A 0 = some (.grade .h1A) ∧ (Setting.grade .h1A).listed 3 = false ∧
      (Setting.grade .h1A).listed 2 = true ∧ coupled.plant.settingBusy (.grade .h1A) = true) ∧
     settingOf 0x18 0x2B 0 = some (.travel (.hv .h2B)) ∧
     (filling .filling).plant.settingAbsent (.travel (.hv .h2B)) = true) :=
  ⟨by decide +kernel, BankId.forall_of_all (by decide +kernel), by decide +kernel⟩

/-- D1 PARKED, with no claim on its vent valve and its pressure-control valve. -/
def serviced : State := reset.onPlant (modDisp .d1 fun c => { c with park := .parked })

theorem witness_PointRequests :
    (reset.room ∧
     pointOf 0xD1 6 = some (.out (.pcv .d1)) ∧
     driveValue (.pcv .d1) 100001 = some (.setpoint 100000) ∧
     driveValue (.prv .d1) 1 = some (.position true) ∧
     reset.plant.pointAbsent (.out (.pcv .d1)) = false ∧
     pointOf 0xF0 2 = some (.switch .fd1) ∧
     reset.plant.pointAbsent (.switch .fd1) = false ∧
     (let r := serviced.plant.outs.get (.pcv .d1)
     r.safety = none ∧ r.function = none ∧ serviced.plant.maint (.pcv .d1) = true ∧
     reset.plant.maint (.pcv .d1) = false ∧ (OutPoint.pcv .d1).isSetpoint = true ∧ 100000 < 100001 ∧ ¬ 100000 < 100000)) ∧
    ((∀ o, pointOf 0xF0 2 ≠ some (.out o)) ∧ (∀ x, pointOf 0xD1 6 ≠ some (.switch x)) ∧ driveValue (.prv .d1) 2 = none) ∧
    (∃ n, pointOf 0x2B n = some (.out (.hv .h2B)) ∧ (filling .filling).plant.pointAbsent (.out (.hv .h2B)) = true ∧
      driveValue (.hv .h2B) 1 ≠ none) ∧
    (pointOf 0x2B (Point.switch (.hol .h2B)).bytes.2 = some (.switch (.hol .h2B)) ∧
     (filling .filling).plant.pointAbsent (.switch (.hol .h2B)) = true) := by
  refine ⟨by decide +kernel, ⟨?_, ?_, by decide +kernel⟩,
    ⟨(Point.out (.hv .h2B)).bytes.2, by decide +kernel⟩, by decide +kernel⟩
  · have h : pointOf 0xF0 2 = some (.switch .fd1) := by decide +kernel
    simp [h]
  · have h : pointOf 0xD1 6 = some (.out (.pcv .d1)) := by decide +kernel
    simp [h]

theorem witness_IsolateAndRestore :
    ((0 = 0 ∨ 6 < 0) ∧
     (7 = 0 ∨ 6 < 7) ∧
     (filling .filling).room ∧
     bankOf 2 = some .b2 ∧
     bankOf 6 = some .b6) ∧
    (filling .filling).plant.isolatedEmpty ∧
    ((filling .filling).plant.trip = false ∧
     tripped.plant.trip = true) :=
  ⟨by decide +kernel, filling_isolatedEmpty, by decide +kernel⟩

/-- The filling state with C2 in a given state. -/
def withC2 (st : CompState) : State := (filling .filling).onPlant fun p =>
  { p with comps := p.comps.set .c2 ⟨st, true, .none, 20000, 120000, 10000, none⟩ }

theorem withC2_fillersLoad (st : CompState) (h : ∀ k, st ≠ .loaded k) : (withC2 st).plant.fillersLoad := by
  intro k c
  cases c with
  | c1 => exact filling_fillersLoad k .c1
  | c2 => exact ⟨fun e => absurd ((filling_fillersLoad k .c2).mp e) (by cases k <;> decide +kernel), fun e => absurd e (h k)⟩

theorem witness_CompressorRequests :
    ((0 = 0 ∨ 2 < 0) ∧
     (3 = 0 ∨ 2 < 3) ∧
     (withC2 .starting).room ∧
     compOf 2 = some .c2) ∧
    (withC2 .starting).plant.fillersLoad ∧
    (CompState.starting.runOn = true ∧
     CompState.stopping.runOn = false ∧
     CompState.starting.isLocked = false ∧
     (CompState.lockedOut .fault).isLocked = true) ∧
    (withC2 (.lockedOut .fault)).plant.fillersLoad ∧
    ((withC2 (.lockedOut .fault)).plant.asserted (.compFlt .c2) = false ∧
     ((withC2 (.lockedOut .fault)).onPlant fun p =>
      p.setSwitch (.compFlt .c2) ⟨some 1, none, 0, 50, .rising, true, 1⟩).plant.asserted (.compFlt .c2) = true) :=
  ⟨by decide +kernel, withC2_fillersLoad _ (fun _ => nofun), by decide +kernel, withC2_fillersLoad _ (fun _ => nofun),
    by decide +kernel⟩

/-- A closing whose shutdown orders are given, C1 locked out and C2 STOPPING. -/
def closingLast : State := (withC2 .stopping).onPlant fun p =>
  { p with mode := .closing, closeKind := some .stop, shutdownGiven := true
           banks := p.banks.set .b3 (bank .high 95000 85000 78000 none none false)
           comps := (p.comps.set .c1 ⟨.lockedOut .fault, true, .stop, 0, 0, 0, none⟩).set .c2
             ⟨.stopping, true, .stop, 0, 0, 10000, none⟩ }

theorem closingLast_fillersLoad : closingLast.plant.fillersLoad := fun k =>
  CompId.forall_of_all (P := fun c => (closingLast.plant.banks.get k).filler = some c ↔
    (closingLast.plant.comps.get c).state = .loaded k) (by cases k <;> decide +kernel)

theorem witness_CompressorTimers :
    (withC2 .starting).plant.fillersLoad ∧ ((withC2 .starting).plant.comps.get .c2).state = .starting ∧
    (withC2 .unloaded).plant.fillersLoad ∧ ((withC2 .unloaded).plant.comps.get .c2).state = .unloaded ∧
    (withC2 .stopping).plant.fillersLoad ∧ ((withC2 .stopping).plant.comps.get .c2).state = .stopping ∧
    (withC2 .stopping).plant.mode ≠ .closing ∧
    (closingLast.plant.fillersLoad ∧ (closingLast.plant.comps.get .c2).state = .stopping ∧
      closingLast.plant.mode = .closing ∧ closingLast.plant.shutdownGiven = true ∧
      ∀ x, (closingLast.plant.comps.get x).shutdown ≠ .none ∧
        (x ≠ .c2 → (closingLast.plant.comps.get x).state.atRest = true)) :=
  ⟨withC2_fillersLoad _ (fun _ => nofun), by decide +kernel, withC2_fillersLoad _ (fun _ => nofun), by decide +kernel,
    withC2_fillersLoad _ (fun _ => nofun), by decide +kernel, by decide +kernel,
    ⟨closingLast_fillersLoad, by decide +kernel, by decide +kernel, by decide +kernel,
      fun x => by cases x <;> decide +kernel⟩⟩

/-- Stage S1 in FAULT, all else after power-on. -/
def faulted : State := reset.onPlant fun p => { p with stages := p.stages.set .s1 ⟨.fault .fault, 0, 0⟩ }

theorem witness_ClearStage :
    (0 = 0 ∨ 3 < 0) ∧ (4 = 0 ∨ 3 < 4) ∧ faulted.room ∧ stageOf 1 = some .s1 ∧
    faulted.plant.conditionsFormed ∧ faulted.plant.asserted (.stageFlt .s1) = false ∧
    (faulted.plant.stages.get .s1).state.isFault = true ∧ (reset.plant.stages.get .s1).state.isFault = false ∧
    (let s := reset.onPlant fun p => p.setSwitch (.stageFlt .s1) ⟨some 1, none, 0, 50, .rising, true, 1⟩
     s.plant.conditionsFormed ∧ s.plant.asserted (.stageFlt .s1) = true) := by decide +kernel

/-- The filling state with S1 RUNNING and S2 and S3 OFF, their off timers at the times stated. -/
def chilling (two three : Nat) : State := (filling .filling).onPlant fun p =>
  { p with stages := (p.stages.set .s2 ⟨.off, 0, two⟩).set .s3 ⟨.off, 0, three⟩ }

theorem witness_ChillerTimers :
    (reset.plant.stages.get .s3).state = .off ∧
    ((reset.onPlant fun p => { p with stages := p.stages.set .s1 ⟨.starting, 30000, 0⟩ }).plant.stages.get .s1).state
      = .starting ∧
    (let s := (filling .filling).onPlant fun p => { p with stopT := ⟨true, 120000⟩, candidate := some (6, 60000) }
     s.plant.stopT.running = true ∧ s.plant.candidate = some (6, 60000) ∧
     StageId.all.reverse.find? (fun y => (s.plant.stages.get y).state = .running) = some .s3) ∧
    reset.plant.stopT.running = false ∧ reset.plant.candidate = none ∧
    (let short := fun p : Plant => stageCapacity p.band * (StageId.all.filter fun x =>
       (p.stages.get x).state = .running ∨ (p.stages.get x).state = .starting).length < (p.grants.map Request.demand).sum
     let ready := fun (p : Plant) x =>
       (p.stages.get x).state = .off ∧ 60000 ≤ (p.stages.get x).offMs ∧ p.asserted (.stageFlt x) = false
     let p := (chilling 59999 60000).plant
     short p ∧ p.mode ≠ .closed ∧ p.trip = false ∧ ready p .s3 ∧ ¬ ready p .s2 ∧ ¬ ready p .s1 ∧
     ¬ short reset.plant ∧ ∀ x ∈ StageId.all, ¬ ready reset.plant x) ∧
    (let p := (chilling 59999 0).plant
     (p.stages.get .s2).state = .off ∧ p.asserted (.stageFlt .s2) = false ∧ p.stageAvailable .s1 = false ∧
     p.comingCapacity < (p.grants.map Request.demand).sum ∧ p.mode ≠ .closed ∧ p.trip = false ∧
     (∀ h ∈ Hose.all, p.sessState h ≠ .queued ∧ p.sessState h ≠ .settled) ∧
     ∀ d ∈ Disp.all, (p.disps.get d).park ≠ .parking ∧ (p.requestOf (.disp d)).isSome = p.armed d) := by decide +kernel

theorem witness_ClassTimers :
    (filling .filling).plant.activeHose .d1 = some .h1A ∧ (filling .filling).plant.sessState .h1A = .filling ∧
    ((filling .filling).plant.classSettle.get .d1).running = true ∧ (filling .filling).plant.fills .d1 ramp ∧
    ramp.cls ≠ .none ∧ (filling .filling).plant.grade.get ramp.hose = some .h70 ∧
    ((filling .filling).plant.classStep.get .d1).running = true ∧ rateEntry .h70 ramp.band ramp.cls.down ≠ 0 ∧
    rateEntry .h70 6 PrecoolClass.t30.down = 0 ∧ (reset.plant.classStep.get .d1).running = false ∧
    (reset.plant.classSettle.get .d1).running = false ∧ ramp.pauses.get .hold = none ∧
    { ramp with pauses := { noPauses with hold := some 0 } }.pauses.get .hold ≠ none := by decide +kernel

theorem witness_CouplingTimeout :
    let s := ticketed .authorised
    let x := s.plant.sessions.get .h1A
    x.state = .authorised ∧ x.cred = some 3 ∧ x.hold = some 500 ∧ x.verified = 0 ∧
    credAt 3 s.office.creds = some ((entry .retail 9999 none).takeHold 500) ∧ x.ticket = some ticket1.number ∧
    s.office.openTickets.find? (fun y => y.number = ticket1.number) = some ticket1 := by decide +kernel

theorem witness_FillTimeLimits :
    ((filling .precheck).plant.sessState .h1A = .precheck ∧
      ((filling .precheck).plant.sessions.get .h1A).supplyWait.running = true) ∧
    (warm.plant.sessState .h1A = .waitPrecool ∧ warm.plant.readyToFlow .h1A = false) ∧
    ((filling .waitPrecool).plant.sessState .h1A = .waitPrecool ∧ (filling .waitPrecool).plant.readyToFlow .h1A = true) ∧
    (∃ r, paused.plant.fills .d1 r ∧ pauseLimit .hold = some (120000, .stationHold) ∧
      (r.pauses.get .hold).isSome = true ∧ r.lowHold = true) :=
  ⟨by decide +kernel, by decide +kernel, by decide +kernel,
    ⟨{ ramp with pauses := { noPauses with hold := some 120000 }, lowHold := true }, by decide +kernel⟩⟩

/-- PRECHECK with the settle timer running, and Pa so far above Pb. -/
def settling (drop : Nat) : State := (filling .precheck).onPlant
  (modSession .h1A fun x => { x with pulseStep := some .settling, pa := some (59000 + drop) })

theorem witness_PrecheckTimers :
    ((filling .precheck).plant.sessState .h1A = .precheck ∧
      ((filling .precheck).plant.sessions.get .h1A).pulseStep = some .pulsing ∧
      ((filling .precheck).plant.sessions.get .h1A).bank ≠ none) ∧
    ((settling 5000).plant.sessions.get .h1A).pulseStep = some .settling ∧
    pulseTest 64000 59000 87500 = some .leak ∧ pulseTest 59000 59000 87500 = none := by decide +kernel

theorem witness_AfterflowSettles :
    let s := ticketed .ending
    let x := s.plant.sessions.get .h1A
    x.state = .ending ∧ x.endReason = some .hostStop ∧ x.cred = some 3 ∧
    credAt 3 s.office.creds = some ((entry .retail 9999 none).takeHold 500) ∧ x.ticket = some ticket1.number ∧
    s.office.openTickets.find? (fun y => y.number = ticket1.number) = some ticket1 ∧
    s.plant.activeHose .d1 = some .h1A ∧ s.plant.mode ≠ .closing := by decide +kernel

theorem witness_SwitchTimer :
    (filling .filling).plant.fills .d1 ramp ∧ ((filling .filling).plant.sessions.get ramp.hose).bank = some .b2 ∧
    ((filling .filling).plant.disps.get .d1).switchT.running = true ∧
    ((filling .filling).plant.banks.get .b2).pressure = some 59900 ∧
    59900 < (filling .filling).plant.hoseP ramp.hose + 3000 := by decide +kernel

/-- Hose 1A in a given state, a level awaiting confirmation at a switch, and its holder and coupling at the levels stated. -/
def switched (st : SessionState) (x : SwitchPoint) (l holder coupling : Nat) : State := (filling st).onPlant fun p =>
  let p := p.setSwitch (.hol .h1A) ⟨some holder, none, 0, 50, .none, false, 0⟩
  let p := p.setSwitch (.cpl .h1A) ⟨some coupling, none, 0, 50, .none, false, 0⟩
  p.setSwitch x { p.switches.get x with candidate := some l }

theorem switched_oneActive (st : SessionState) (x : SwitchPoint) (l m n : Nat) : (switched st x l m n).plant.oneActive :=
  fun d => filling_oneActive st d

/-- A case for the levels of a nozzle, of a coupling and of a breakaway switch in each state of the session that they act on,
for the faults of a compressor and of a stage, and for a point by itself. -/
theorem witness_SwitchLevels :
    (let is := fun (st : SessionState) (x : SwitchPoint) (l m n : Nat) =>
       let p := (switched st x l m n).plant
       p.present .h1A = true ∧ p.sessState .h1A = st ∧ (p.switches.get x).candidate = some l
     is .idle (.hol .h1A) 1 0 0 ∧ is .lifted (.hol .h1A) 0 1 0 ∧ is .coupled (.hol .h1A) 0 1 1 ∧
     is .authorised (.hol .h1A) 0 1 0 ∧ is .queued (.hol .h1A) 0 1 1 ∧
     (is .settled (.hol .h1A) 0 1 0 ∧ (switched .settled (.hol .h1A) 0 1 0).plant.deasserted (.cpl .h1A) = true) ∧
     (is .settled (.cpl .h1A) 0 0 1 ∧ (switched .settled (.cpl .h1A) 0 0 1).plant.deasserted (.hol .h1A) = true) ∧
     is .filling (.hol .h1A) 0 1 1 ∧ is .precheck (.cpl .h1A) 0 1 1 ∧ is .lifted (.cpl .h1A) 1 1 0 ∧
     is .coupled (.cpl .h1A) 0 1 1 ∧ is .queued (.cpl .h1A) 0 1 1 ∧ is .authorised (.cpl .h1A) 1 1 0 ∧
     is .authorised (.brk .h1A) 1 1 0 ∧ is .waitPrecool (.brk .h1A) 1 1 1 ∧ is .settled (.brk .h1A) 1 1 1) ∧
    (switched .filling (.hol .h1A) 0 1 1).plant.oneActive ∧
    (let p := (switched .authorised (.cpl .h1A) 1 1 0).plant
     p.mode = .opened ∧ p.hold = false ∧ p.trip = false ∧ (p.disps.get Hose.h1A.disp).park = .active ∧
     (p.sessState Hose.h1A.other).flowing = false ∧ (p.analogs.get (.pt .h1A)).valid = true ∧
     ((p.setAnalog (.pt .h1A) ⟨none, false, 0⟩).analogs.get (.pt .h1A)).valid = false ∧
     (modSession .h1B (fun x => { x with state := .queued }) { p with hold := true }).sessState Hose.h1A.other = .queued) ∧
    ((switched .filling (.brk .h1B) 1 1 1).plant.sessState Hose.h1B.other).running = true ∧
    ((switched .filling (.compFlt .c1) 1 1 1).plant.fillersLoad ∧
      ((switched .filling (.compFlt .c1) 1 1 1).plant.switches.get (.compFlt .c1)).candidate = some 1 ∧
      ((switched .filling (.compFlt .c1) 1 1 1).plant.comps.get .c1).state.running = true) ∧
    (((switched .filling (.stageFlt .s3) 1 1 1).plant.switches.get (.stageFlt .s3)).candidate = some 1 ∧
      ((switched .filling (.stageFlt .s3) 1 1 1).plant.stages.get .s3).state.isFault = false) ∧
    (let r : SwitchRec := ⟨some 0, some 1, 49, 50, .rising, false, 255⟩
     let s := reset.onPlant fun p => p.setSwitch .fd1 r
     (s.plant.switches.get .fd1).level = some 0 ∧ (s.plant.switches.get .fd1).level ≠ some 1 ∧
     (s.plant.switches.get .fd1).candidate = some 1 ∧ s.plant.passes SwitchPoint.fd1.hose = true) ∧
    ((reset.plant.switches.get .fd1).level ≠ some 0 ∧ (reset.plant.switches.get .fd1).candidate = none) ∧
    (let s := (filling .filling).onPlant fun p => p.setSwitch (.hol .h2B) ⟨some 0, some 1, 50, 50, .both, false, 0⟩
     (s.plant.switches.get (.hol .h2B)).candidate = some 1 ∧ s.plant.passes (SwitchPoint.hol .h2B).hose = false) :=
  ⟨by decide +kernel, switched_oneActive _ _ _ _ _, by decide +kernel, by decide +kernel,
    ⟨fun k c => filling_fillersLoad k c, by decide +kernel, by decide +kernel⟩, by decide +kernel, by decide +kernel,
    by decide +kernel, by decide +kernel⟩

/-- The filling state with an analog point VALID. -/
def sampled (x : AnalogPoint) (v : Nat) : State := (filling .filling).onPlant fun p => p.setAnalog x ⟨some v, true, 1⟩

theorem witness_AnalogPoints :
    ((reset.plant.analogs.get (.pt .h1A)).valid = false ∧
     (let s := sampled .supPt 3000
     (s.plant.analogs.get .supPt).valid = true ∧ 0 < (s.plant.analogs.get .supPt).ageMs) ∧
     (((sampled (.bankPt .b2) 59900).plant.analogs.get (.bankPt .b2)).valid = true ∧
      ((sampled (.bankTt .b2) 2930).plant.analogs.get (.bankTt .b2)).valid = true ∧
      ((sampled (.tg .d1) 2390).plant.analogs.get (.tg .d1)).valid = true ∧
      ((sampled .ambTt 3000).plant.analogs.get .ambTt).valid = true ∧
      ((filling .filling).plant.banks.get .b2).temperature = some 2930 ∧ (reset.plant.banks.get .b2).temperature = none) ∧
     (ambientBand 3127 = 5 ∧ reset.plant.band = 6 ∧ ambientBand 3134 = reset.plant.band ∧ reset.plant.candidate = none ∧
      ({ reset.plant with candidate := some (5, 59999) } : Plant).candidate.map Prod.fst = some (ambientBand 3127)) ∧
     ((filling .filling).plant.analogs.get (.pt .h1A)).valid = true ∧
     (filling .filling).plant.present .h1A = true) ∧
    (filling .filling).plant.oneActive ∧
    (((filling .filling).plant.sessState .h1A).running = true ∧
     ((filling .precheck).plant.sessState .h1A = .precheck ∧ (filling .precheck).plant.grade.get .h1A = some .h70 ∧
      87500 + 2000 < 89501 ∧ (filling .waitPrecool).plant.sessState .h1A = .waitPrecool) ∧
     ((filling .filling).plant.fills Hose.h1A.disp ramp ∧ ramp.hose = .h1A ∧ ramp.endP + 2000 < 89501 ∧
      ramp.endP ≤ 87500 ∧ 89500 ≤ ramp.endP + 2000 ∧ ramp.pauses = .empty ∧
      ((filling .filling).plant.sessions.get .h1A).bank ≠ none ∧
      min ramp.endP (ramp.anchor + ramp.rate * ramp.clockMs / 1000) = 58600 ∧ 63600 ≤ 58600 + ramp.corrUp ∧
      58600 + ramp.corrUp < 63601 ∧ 63601 < ramp.endP)) :=
  ⟨by decide +kernel, filling_oneActive _, by decide +kernel⟩

/-- R93, R94, R96: a sample at the upper edge of the corridor commands the ramp target, and one above it pauses the fill. -/
theorem test_corridor_edge :
    let s := fun v => (after (.analogSample (.pt .h1A) true v) (filling .filling)).plant
    ((s 63600).outs.get (.pcv .d1)).function = some (.setpoint 58600) ∧
    ((s 63601).outs.get (.pcv .d1)).function = some (.setpoint 0) := by decide +kernel

/-- Hose 1A flowing with a mass limit. -/
def limited : State := (filling .filling).onPlant (modSession .h1A fun x => { x with massLimit := some 300 })

/-- Hose 1A ENDING, so many zero reports in a row heard. -/
def zeros (n : Nat) : State := (ticketed .ending).onPlant (modDisp .d1 fun c => { c with zeroCount := n })

theorem witness_MeterReports :
    (reset.plant.activeHose .d1 = none ∧
     (filling .filling).plant.activeHose .d1 = some .h1A) ∧
    (filling .filling).plant.oneActive ∧
    (((filling .filling).plant.sessState .h1A).running = true ∧
     ((filling .filling).plant.disps.get .d1).silence.running = true ∧
     ((filling .filling).plant.sessions.get .h1A).tainted = false ∧
     (reset.plant.disps.get .d1).silence.running = false ∧
     (let x := (filling .filling).plant.sessions.get .h1A
     let m := fun n => min 200000 (x.verified + n) + (filling .filling).plant.cfg.margin
     (filling .filling).office.isService x = false ∧ x.price.getD 0 ≠ 0 ∧
     x.hold.getD 0 ≤ (x.price.getD 0 * m 394 + 5000) / 10000 ∧ ¬ x.hold.getD 0 ≤ (x.price.getD 0 * m 393 + 5000) / 10000 ∧
     x.massLimit = none ∧ x.state = .filling) ∧
     (let x := limited.plant.sessions.get .h1A
     x.massLimit = some 300 ∧ 300 ≤ min 200000 (x.verified + 270) + limited.plant.cfg.margin ∧
     ¬ x.hold.getD 0 ≤ (x.price.getD 0 * (min 200000 (x.verified + 270) + limited.plant.cfg.margin) + 5000) / 10000) ∧
     ((zeros 1).plant.activeHose .d1 = some .h1A ∧ (zeros 1).plant.sessState .h1A = .ending ∧
      1 ≤ ((zeros 1).plant.disps.get .d1).zeroCount ∧ ((zeros 0).plant.disps.get .d1).zeroCount = 0 ∧
      (zeros 0).plant.activeHose .d1 = some .h1A ∧ (zeros 0).plant.sessState .h1A = .ending)) :=
  ⟨by decide +kernel, filling_oneActive _, by decide +kernel⟩

/-- R100: the report that brings the predicted amount to the hold ends the fill; one of a gram less does not. -/
theorem test_allowance_edge :
    let s := fun n => (after (.meterReport .d1 n false) (filling .filling)).plant.sessions.get .h1A
    ((s 394).state, (s 394).endReason) = (.ending, some .allowance) ∧ (s 393).state = .filling := by decide +kernel

/-- The filling state with two travels begun, and hose 2B not fitted. -/
def travelled : State := (filling .filling).onPlant fun p =>
  let p := p.setOut (.pcv .d1) { p.outs.get (.pcv .d1) with travelMs := 1 }
  let p := p.setOut (.stageRun .s1) { p.outs.get (.stageRun .s1) with travelMs := 1 }
  p.setOut (.pcv .d2) { p.outs.get (.pcv .d2) with readback := .agrees }

theorem travelled_fillersLoad : travelled.plant.fillersLoad := fun k c => filling_fillersLoad k c

theorem witness_OutputReadbacks :
    ((travelled.plant.outs.get (.pcv .d1)).readback = .travelling ∧
     0 < (travelled.plant.outs.get (.pcv .d1)).travelMs ∧
     travelled.plant.judged (.pcv .d1) = true) ∧
    travelled.plant.fillersLoad ∧
    ((travelled.plant.comps.get .c1).state.running = true ∧
     (travelled.plant.comps.get .c2).state = .stopped ∧
     (travelled.plant.outs.get (.stageRun .s1)).readback = .travelling ∧
     0 < (travelled.plant.outs.get (.stageRun .s1)).travelMs ∧
     (travelled.plant.stages.get .s1).state.isFault = false ∧
     (travelled.plant.outs.get (.compRun .c1)).readback ≠ .travelling ∧
     (reset.plant.outs.get (.pcv .d1)).travelMs = 0 ∧
     travelled.plant.judged (.hv .h2B) = false ∧
     (travelled.plant.activeHose .d2 = none ∧ (travelled.plant.outs.get (.pcv .d2)).readback = .agrees ∧
      OutVal.agrees (.setpoint 201) (travelled.plant.outs.get (.pcv .d2)).commanded = false)) :=
  ⟨by decide +kernel, travelled_fillersLoad, by decide +kernel⟩

/-- A frame of a car tank, with its check sound. -/
def frame (pressure temperature command : Nat) : VehFrame :=
  let f : VehFrame := ⟨0, 70, 120, pressure, temperature, command, 0⟩
  { f with check := (crc16 (frameBytes f)).toNat }

/-- Hose 1A flowing with its receiver CURRENT, two invalid frames heard in a row. -/
def heard : State := (filling .filling).onPlant fun p =>
  p.setReceiver .h1A ⟨some (frame 30000 2950 0), 999, 2, 1, 2, some .nwp⟩

theorem heard_oneActive : heard.plant.oneActive := Disp.forall_of_all (by decide +kernel)

/-- The depot order of bus 4112 in seventh place. -/
def seventh : State := queued.onOffice fun o => { o with
  queue := (List.range 6).map (fun n => ⟨n + 1, 4, 980, 25000, .make (fun _ => true), none⟩) ++ o.queue }

theorem witness_VehicleLine :
    ((filling .filling).plant.grade.get .h2B = none ∧
     reset.plant.sessState .h1A = .idle ∧
     heard.plant.grade.get .h1A = some .h70 ∧
     heard.plant.sessState .h1A ≠ .idle ∧
     (reset.plant.receivers.get .h1A).frame = none ∧
     (reset.plant.receivers.get .h1A).ageMs = 0 ∧
     ((heard.plant.receivers.get .h1A).frame ≠ none ∧ 0 < (heard.plant.receivers.get .h1A).ageMs) ∧
     (rejection .h70 { frame 30000 2950 0 with check := 0 } = some .check ∧ heard.plant.sessState .h1A = .filling ∧
      (heard.plant.receivers.get .h1A).state = .current ∧ (heard.plant.receivers.get .h1A).invalidRun = 2 ∧
      (heard.plant.sessions.get .h1A).comm = some .comm) ∧
     (rejection .h70 (frame 30000 3581 0) = none ∧ rejection .h70 (frame 30000 3580 2) = none ∧
      rejection .h70 (frame 30000 3000 1) = none ∧ rejection .h70 (frame 30000 3000 0) = none ∧
      rejection .h70 (frame 90000 2950 0) = none ∧ 980 ≤ soc .h70 90000 2950 ∧ soc .h70 30000 3000 < 980)) ∧
    heard.plant.oneActive ∧
    ((heard.plant.sessState .h1A).running = true ∧
     (heard.plant.fills Hose.h1A.disp ramp ∧ ramp.hose = .h1A ∧ ramp.pauses = .empty) ∧
     (coupled.plant.sessState .h1A = .coupled ∧ coupled.plant.grade.get .h1A = some .h70) ∧
     (coupled.plant.mode = .opened ∧ coupled.plant.trip = false ∧ (coupled.plant.disps.get .d1).park = .active ∧
      coupled.office.seeks.get .h1A = none ∧ findOrder 4112 coupled.office.queue = none ∧ reset.plant.mode ≠ .opened)) ∧
    (∃ r, findOrder 4112 queued.office.queue = some (0, r) ∧ r.mask.get .d1 = true ∧
      (∃ y, authCheck .h1A (orderAsk r) queued = .ok y) ∧ ∃ c, authCheck .h1B (orderAsk r) queued = .error c) ∧
    ∃ r, findOrder 4112 seventh.office.queue = some (6, r) :=
  ⟨by decide +kernel, heard_oneActive, by decide +kernel,
    ⟨⟨4112, 4, 980, 25000, .make (fun _ => true), none⟩, by decide +kernel, by decide +kernel, ok_of (by decide +kernel),
      error_of (by decide +kernel)⟩,
    ⟨⟨4112, 4, 980, 25000, .make (fun _ => true), none⟩, by decide +kernel⟩⟩

/-- The filling state with a command waiting. -/
def running : State := { filling .filling with pending := [.stopHose 1#8 0x1A] }

theorem running_steps : ∃ t, step running = .next t := ⟨_, rfl⟩

theorem running_outputs : running.plant.outputsFollow := OutPoint.forall_of_all (by decide +kernel)

theorem running_safety : running.plant.safetyFollows := OutPoint.forall_of_all (by decide +kernel)

theorem running_window : running.windowPassed := ⟨by decide +kernel, Disp.forall_of_all (by decide +kernel)⟩

theorem witness_BalancesKept :
    running.office.balanced = true ∧ running.office.tableForm = true ∧ ∃ t, step running = .next t :=
  ⟨by decide +kernel, by decide +kernel, running_steps⟩

theorem witness_PlacesAndWindowKept : running.bounded = true ∧ running.windowPassed ∧ ∃ t, step running = .next t :=
  ⟨by decide +kernel, running_window, running_steps⟩

theorem witness_OutputsFollowOwners : running.plant.outputsFollow ∧ ∃ t, step running = .next t :=
  ⟨running_outputs, running_steps⟩

theorem witness_ConditionsKept :
    running.plant.conditionsFormed ∧ running.plant.safetyFollows ∧ ∃ t, step running = .next t :=
  ⟨by decide +kernel, running_safety, running_steps⟩

/-- The station after power-on, with a command waiting. -/
def waiting : State := { reset with pending := [.analogSample (.bankPt .b1) true 40000] }

theorem witness_BanksKept :
    (running.plant.isolatedEmpty ∧ running.plant.fillersLoad ∧ ∃ t, step running = .next t) ∧
    (running.plant.pressuresOrdered ∧ ∃ t, step running = .next t) ∧
    waiting.plant.inventoriesHeld ∧ ∃ t, step waiting = .next t :=
  ⟨⟨filling_isolatedEmpty, filling_fillersLoad, running_steps⟩, ⟨BankId.forall_of_all (by decide +kernel), running_steps⟩,
    BankId.forall_of_all (by decide +kernel), ⟨_, rfl⟩⟩

theorem running_grants : running.plant.grantsSound :=
  ⟨by unfold inClassOrder; decide +kernel, by unfold onePerHolder; decide +kernel, by decide +kernel⟩

theorem witness_GrantsAndHosesKept :
    running.plant.grantsSound ∧ running.plant.oneActive ∧ running.plant.absentIdle ∧ ∃ t, step running = .next t :=
  ⟨running_grants, filling_oneActive .filling, filling_absentIdle, running_steps⟩

end Sys2Proof.Tests
end

section
/-! Gas quantity (01): the bounds of the clamped inputs (R1), of the corrected temperature (R3) and of the state of charge
(R6), and what an empty vessel holds (R4, R6, R7, R8). -/

namespace Sys2Proof.Machine

section Clamp
variable {lo hi : Nat} (x : Nat)

theorem le_clamp (h : lo ≤ hi) : lo ≤ clamp lo hi x := by
  unfold clamp
  split
  · exact Nat.le_refl lo
  · split <;> omega

theorem clamp_le (h : lo ≤ hi) : clamp lo hi x ≤ hi := by
  unfold clamp
  split
  · exact h
  · split <;> omega

@[simp] theorem clamp_zero_zero (hi : Nat) : clamp 0 hi 0 = 0 := by simp [clamp]

end Clamp

section Gas
variable (g : Grade) (p t v f : Nat)

theorem le_gasD : 2000 ≤ gasD p t :=
  Nat.le_trans (le_clamp (lo := 2000) (hi := 3730) t (by decide)) (Nat.le_add_right _ _)

/-- The largest clamped pressure adds `100000 * 37 / 2000 = 1850` to the largest clamped temperature. -/
theorem gasD_le : gasD p t ≤ 5580 := by
  have hT : clamp 2000 3730 t ≤ 3730 := clamp_le t (by decide)
  have hP : clamp 0 100000 p ≤ 100000 := clamp_le p (by decide)
  unfold gasD
  omega

@[simp] theorem gasN_zero : gasN 0 t = 0 := by simp [gasN]

@[simp] theorem gasMass_zero : gasMass 0 t v = 0 := by simp [gasMass]

theorem gasNref_eq : gasNref g = if g = .h70 then 1098807 else 650343 := by
  cases g <;> rfl

theorem gasNref_pos : 0 < gasNref g := by
  cases g <;> decide

theorem soc_le : soc g p t ≤ 1000 := Nat.min_le_left _ _

@[simp] theorem soc_zero : soc g 0 t = 0 := by simp [soc]

variable {g p t}

/-- Less than a thousandth of the reference quantity rounds down to nothing. -/
theorem soc_eq_zero (h : gasN p t * 1000 < gasNref g) : soc g p t = 0 := by
  rw [soc, Nat.div_eq_of_lt h, Nat.min_zero]

/-- From the reference quantity on, the state of charge stands at its cap. -/
theorem soc_eq_full (h : gasNref g ≤ gasN p t) : soc g p t = 1000 := by
  have hq : 1000 ≤ gasN p t * 1000 / gasNref g :=
    (Nat.le_div_iff_mul_le (gasNref_pos g)).2 (by omega)
  exact Nat.min_eq_left hq

variable {v f}

theorem usableInventory_of_le (h : p ≤ f) : usableInventory p t v f = 0 := if_pos h

/-- The natural subtraction of R8 is the difference of the masses cut off at 0, which matters since the masses are not
monotone in the pressure. -/
theorem usableInventory_of_lt (h : f < p) :
    (usableInventory p t v f : Int) = max 0 ((gasMass p t v : Int) - gasMass f t v) := by
  rw [usableInventory, if_neg (Nat.not_le.2 h)]
  omega

end Gas

/-- Settles O1, stage by stage: the bounds of D from its clamped inputs, the state of charge below, at and above its
reference quantity, and the inventory on either side of the floor pressure. -/
theorem gasStages : Obligations.GasStages := by
  refine ⟨fun p t => ⟨rfl, le_gasD p t, gasD_le p t⟩, by decide, by decide, by decide, fun g p t => ?_,
    fun p t => ⟨rfl, gasN_zero t⟩, fun p t v => ⟨rfl, gasMass_zero t v⟩, fun p t v f => ?_⟩
  · exact ⟨by rw [← gasNref_eq, soc], soc_le g p t, soc_eq_zero, soc_eq_full, soc_zero g t⟩
  · exact ⟨usableInventory_of_le, usableInventory_of_le (Nat.zero_le f), usableInventory_of_lt⟩

end Sys2Proof.Machine
end


section
/-! The end reasons (R104): no two share a place in the precedence, so the reason recorded where an event meets several is
the one of least place among them. -/

namespace Sys2Proof.Machine

section EndReasons
variable {rs : List EndReason} {r : EndReason}

/-- The reasons are declared in the order of their precedence. -/
@[simp] theorem EndReason.ofNat_place (r : EndReason) : EndReason.ofNat r.place = r := by
  cases r <;> rfl

theorem EndReason.place_injective : Function.Injective EndReason.place :=
  Function.LeftInverse.injective EndReason.ofNat_place

@[simp] theorem firstReason_eq_none_iff : firstReason rs = none ↔ rs = [] := by
  cases rs with
  | nil => exact iff_of_true rfl rfl
  | cons r rs =>
    refine iff_of_false (fun h => ?_) (List.cons_ne_nil r rs)
    unfold firstReason at h
    split at h
    · cases h
    · split at h <;> cases h

theorem firstReason_isLeast (h : firstReason rs = some r) : r ∈ rs ∧ ∀ q ∈ rs, r.place ≤ q.place := by
  induction rs generalizing r with
  | nil => cases h
  | cons x rs ih =>
    unfold firstReason at h
    split at h
    next hrest =>
      obtain rfl : x = r := Option.some.inj h
      obtain rfl : rs = [] := firstReason_eq_none_iff.1 hrest
      exact ⟨List.mem_singleton_self x, List.forall_mem_singleton.2 (Nat.le_refl _)⟩
    next m hrest =>
      obtain ⟨hmem, hle⟩ := ih hrest
      split at h
      next hlt =>
        obtain rfl : m = r := Option.some.inj h
        exact ⟨List.mem_cons_of_mem x hmem, List.forall_mem_cons.2 ⟨Nat.le_of_lt hlt, hle⟩⟩
      next hge =>
        obtain rfl : x = r := Option.some.inj h
        have hxm : x.place ≤ m.place := Nat.le_of_not_lt hge
        exact ⟨List.mem_cons_self, List.forall_mem_cons.2
          ⟨Nat.le_refl _, fun q hq => Nat.le_trans hxm (hle q hq)⟩⟩

/-- A reason of least place is the one recorded, since no other has its place. -/
theorem firstReason_eq_some_iff : firstReason rs = some r ↔ r ∈ rs ∧ ∀ q ∈ rs, r.place ≤ q.place := by
  refine ⟨firstReason_isLeast, fun ⟨hmem, hle⟩ => ?_⟩
  cases hfirst : firstReason rs with
  | none =>
    obtain rfl : rs = [] := firstReason_eq_none_iff.1 hfirst
    exact absurd hmem List.not_mem_nil
  | some q =>
    obtain ⟨hqmem, hqle⟩ := firstReason_isLeast hfirst
    exact congrArg some (EndReason.place_injective (Nat.le_antisymm (hqle r hmem) (hle q hqmem)))

end EndReasons

/-- Settles O3: the places by evaluation of the list of reasons, the reason recorded as the member of least place. -/
theorem reasonPrecedence : Obligations.ReasonPrecedence :=
  ⟨rfl, fun _ _ => firstReason_eq_some_iff⟩

end Sys2Proof.Machine
end
